-- ==== Sys2Proof/Word.lean ====
section
/-! DEFINITION. The words the manual treats as bits: the bytes of frames and of the configuration block, and the two check values. -/

namespace Sys2Proof

/-- One byte of a frame or of the configuration store (R182, R203). -/
abbrev Byte := BitVec 8

/-- The 16-bit check of a frame (R182). -/
abbrev Check16 := BitVec 16

/-- The 32-bit check of the configuration block (R203). -/
abbrev Check32 := BitVec 32

end Sys2Proof
end

