-- ==== Sys2Proof/Machine/Names.lean ====
section
/-! DEFINITION. The names of the things in the lock (00, section 1.4), and one container for each fixed
family of like things (two chambers, two ends, nine devices, ...), with its read and its write. -/

namespace Sys2Proof

/-- The two chambers. -/
inductive Chamber where
  | A
  | B
  deriving DecidableEq, Repr

/-- The two ends of a chamber, which also name the two pounds and the two approach queues. -/
inductive End where
  | upper
  | lower
  deriving DecidableEq, Repr

/-- The passage of a lockage or a vessel. -/
inductive Direction where
  | up
  | down
  deriving DecidableEq, Repr

/-- The three command links. -/
inductive Link where
  | desk
  | centre
  | toll
  deriving DecidableEq, Repr

/-- The links that can hold a chamber: the toll link is never a holder (R186). -/
inductive Operator where
  | desk
  | centre
  deriving DecidableEq, Repr

/-- The nine devices (R1). -/
inductive Device where
  | gate (c : Chamber) (e : End)
  | sluice (c : Chamber) (e : End)
  | xv
  deriving DecidableEq, Repr

/-- The target of a START (R6). -/
inductive Target where
  | toOpen
  | toClose
  deriving DecidableEq, Repr

/-- The position of a device (R1). -/
inductive Position where
  | closed
  | opening
  | opened
  | closing
  | stopped
  | faulted
  deriving DecidableEq, Repr

/-- The outstanding command of a device, when there is one (R1). -/
inductive Order where
  | move (t : Target)
  | stop
  deriving DecidableEq, Repr

/-- The kind of a transaction, queued or on the line (R1, R9). -/
inductive Task where
  | start (t : Target)
  | stop
  | status
  deriving DecidableEq, Repr

/-- The end position that a STATUS reply carries (R11). -/
inductive EndPosition where
  | opened
  | closed
  | intermediate
  deriving DecidableEq, Repr

/-- The filtered state of a discrete input (R4). -/
inductive Filtered where
  | active
  | inactive
  | unknown
  deriving DecidableEq, Repr

/-- The ten fault kinds (R87). -/
inductive FaultKind where
  | noResponse
  | driveRefused
  | driveReported
  | positionMismatch
  | travelTimeout
  | uncommandedMove
  | limitConflict
  | crossConflict
  | levelTimeout
  | levelLost
  deriving DecidableEq, Repr

/-- The phases of a chamber (R42). -/
inductive Phase where
  | outOfService
  | idle
  | forming
  | turning
  | preLevelling
  | entryOpening
  | entry
  | entryClosing
  | crossing
  | levelling
  | exitOpening
  | exit
  | hold
  | safing
  | lockedOut
  deriving DecidableEq, Repr

/-- The reasons of a hold (R42). -/
inductive HoldReason where
  | commanded
  | seized
  | noHolder
  | sill
  | signal
  | fault
  deriving DecidableEq, Repr

/-- The step mode of a chamber (R42). -/
inductive StepMode where
  | auto
  | step
  deriving DecidableEq, Repr

/-- What SET SERVICE carries (R71). -/
inductive Service where
  | out
  | into
  deriving DecidableEq, Repr

/-- The six vessel classes (R106). -/
inductive VesselClass where
  | pleasure
  | cargo
  | tanker
  | passenger
  | service
  | emergency
  deriving DecidableEq, Repr

/-- The deferral reasons (R119). -/
inductive Deferral where
  | length
  | beam
  | sill
  | level
  | admission
  | hazard
  | count
  | recordSpace
  deriving DecidableEq, Repr

/-- The two tariff slots (R155). -/
inductive Slot where
  | current
  | pending
  deriving DecidableEq, Repr

/-- The four places whose water is measured: the two chambers and the two pounds (R31). -/
inductive Place where
  | chamber (c : Chamber)
  | pound (e : End)
  deriving DecidableEq, Repr

/-- The two sensors of a place: A1 and A2, B1 and B2, U1 and U2, L1 and L2 (R29). -/
inductive Sensor where
  | one
  | two
  deriving DecidableEq, Repr

/-- The outer head faces the approach, the inner head faces into the chamber (08). -/
inductive Side where
  | outer
  | inner
  deriving DecidableEq, Repr

/-- The eight signal heads (R140). -/
structure Head where
  chamber : Chamber
  atEnd : End
  side : Side
  deriving DecidableEq, Repr

/-- The three lamps of a head (R140). -/
inductive LampName where
  | red1
  | red2
  | green
  deriving DecidableEq, Repr

/-- The aspects of a head (R140). -/
inductive Aspect where
  | red
  | redGreen
  | green
  | doubleRed
  | dark
  deriving DecidableEq, Repr

/-- Lock time: day number, second of day, weekday (00, section 1.4). -/
structure LockTime where
  day : Nat
  second : Nat
  weekday : Nat
  deriving DecidableEq, Repr

/-- A vessel's registration mark, one byte a character (R107). -/
abbrev Mark := List Byte

/-! ### Containers -/

/-- One value for each chamber. -/
structure PerChamber (α : Type) where
  a : α
  b : α
  deriving DecidableEq, Repr

/-- One value for each end. -/
structure PerEnd (α : Type) where
  upper : α
  lower : α
  deriving DecidableEq, Repr

/-- One value for each link. -/
structure PerLink (α : Type) where
  desk : α
  centre : α
  toll : α
  deriving DecidableEq, Repr

/-- One value for each device. -/
structure PerDevice (α : Type) where
  gates : PerChamber (PerEnd α)
  sluices : PerChamber (PerEnd α)
  xv : α
  deriving DecidableEq, Repr

/-- One value for each place. -/
structure PerPlace (α : Type) where
  chambers : PerChamber α
  pounds : PerEnd α
  deriving DecidableEq, Repr

/-- One value for each sensor of a place. -/
structure PerSensor (α : Type) where
  one : α
  two : α
  deriving DecidableEq, Repr

/-- One value for each side of a chamber's end. -/
structure PerSide (α : Type) where
  outer : α
  inner : α
  deriving DecidableEq, Repr

/-- One value for each lamp of a head. -/
structure PerLamp (α : Type) where
  red1 : α
  red2 : α
  green : α
  deriving DecidableEq, Repr

/-- One value for each head. -/
abbrev PerHead (α : Type) := PerChamber (PerEnd (PerSide α))

def PerChamber.both {α : Type} (v : α) : PerChamber α := ⟨v, v⟩
def PerEnd.both {α : Type} (v : α) : PerEnd α := ⟨v, v⟩
def PerLink.all {α : Type} (v : α) : PerLink α := ⟨v, v, v⟩
def PerSensor.both {α : Type} (v : α) : PerSensor α := ⟨v, v⟩
def PerSide.both {α : Type} (v : α) : PerSide α := ⟨v, v⟩
def PerDevice.all {α : Type} (v : α) : PerDevice α := ⟨.both (.both v), .both (.both v), v⟩
def PerPlace.all {α : Type} (v : α) : PerPlace α := ⟨.both v, .both v⟩
def PerHead.all {α : Type} (v : α) : PerHead α := .both (.both (.both v))

def PerChamber.get {α : Type} (p : PerChamber α) : Chamber → α
  | .A => p.a
  | .B => p.b

def PerChamber.set {α : Type} (p : PerChamber α) (c : Chamber) (v : α) : PerChamber α :=
  match c with
  | .A => { p with a := v }
  | .B => { p with b := v }

def PerEnd.get {α : Type} (p : PerEnd α) : End → α
  | .upper => p.upper
  | .lower => p.lower

def PerEnd.set {α : Type} (p : PerEnd α) (e : End) (v : α) : PerEnd α :=
  match e with
  | .upper => { p with upper := v }
  | .lower => { p with lower := v }

def PerLink.get {α : Type} (p : PerLink α) : Link → α
  | .desk => p.desk
  | .centre => p.centre
  | .toll => p.toll

def PerLink.set {α : Type} (p : PerLink α) (l : Link) (v : α) : PerLink α :=
  match l with
  | .desk => { p with desk := v }
  | .centre => { p with centre := v }
  | .toll => { p with toll := v }

def PerDevice.get {α : Type} (p : PerDevice α) : Device → α
  | .gate c e => (p.gates.get c).get e
  | .sluice c e => (p.sluices.get c).get e
  | .xv => p.xv

def PerDevice.set {α : Type} (p : PerDevice α) (d : Device) (v : α) : PerDevice α :=
  match d with
  | .gate c e => { p with gates := p.gates.set c ((p.gates.get c).set e v) }
  | .sluice c e => { p with sluices := p.sluices.set c ((p.sluices.get c).set e v) }
  | .xv => { p with xv := v }

def PerPlace.get {α : Type} (p : PerPlace α) : Place → α
  | .chamber c => p.chambers.get c
  | .pound e => p.pounds.get e

def PerSensor.get {α : Type} (p : PerSensor α) : Sensor → α
  | .one => p.one
  | .two => p.two

def PerSide.get {α : Type} (p : PerSide α) : Side → α
  | .outer => p.outer
  | .inner => p.inner

def PerSide.set {α : Type} (p : PerSide α) (s : Side) (v : α) : PerSide α :=
  match s with
  | .outer => { p with outer := v }
  | .inner => { p with inner := v }

def PerLamp.get {α : Type} (p : PerLamp α) : LampName → α
  | .red1 => p.red1
  | .red2 => p.red2
  | .green => p.green

def PerHead.get {α : Type} (p : PerHead α) (h : Head) : α :=
  ((PerChamber.get p h.chamber).get h.atEnd).get h.side

def PerHead.set {α : Type} (p : PerHead α) (h : Head) (v : α) : PerHead α :=
  PerChamber.set p h.chamber
    ((PerChamber.get p h.chamber).set h.atEnd
      (((PerChamber.get p h.chamber).get h.atEnd).set h.side v))

/-! ### One function over every member -/

def PerChamber.map {α β : Type} (g : α → β) (p : PerChamber α) : PerChamber β := ⟨g p.a, g p.b⟩
def PerEnd.map {α β : Type} (g : α → β) (p : PerEnd α) : PerEnd β := ⟨g p.upper, g p.lower⟩
def PerSide.map {α β : Type} (g : α → β) (p : PerSide α) : PerSide β := ⟨g p.outer, g p.inner⟩
def PerLamp.map {α β : Type} (g : α → β) (p : PerLamp α) : PerLamp β := ⟨g p.red1, g p.red2, g p.green⟩
def PerSensor.map {α β : Type} (g : α → β) (p : PerSensor α) : PerSensor β := ⟨g p.one, g p.two⟩
def PerDevice.map {α β : Type} (g : α → β) (p : PerDevice α) : PerDevice β :=
  ⟨p.gates.map (·.map g), p.sluices.map (·.map g), g p.xv⟩
def PerPlace.map {α β : Type} (g : α → β) (p : PerPlace α) : PerPlace β := ⟨p.chambers.map g, p.pounds.map g⟩
def PerLink.map {α β : Type} (g : Link → α → β) (p : PerLink α) : PerLink β :=
  ⟨g .desk p.desk, g .centre p.centre, g .toll p.toll⟩

/-- One value for each chamber, given by the chamber. -/
def PerChamber.of {α : Type} (g : Chamber → α) : PerChamber α := ⟨g .A, g .B⟩

/-- One value for each end, given by the end. -/
def PerEnd.of {α : Type} (g : End → α) : PerEnd α := ⟨g .upper, g .lower⟩

/-- One value for each place, given by the place. -/
def PerPlace.of {α : Type} (g : Place → α) : PerPlace α :=
  ⟨.of fun c => g (.chamber c), .of fun e => g (.pound e)⟩

/-- One value for each head, given by the head. -/
def PerHead.of {α : Type} (g : Head → α) : PerHead α :=
  PerChamber.of fun c => PerEnd.of fun e => ⟨g ⟨c, e, .outer⟩, g ⟨c, e, .inner⟩⟩

/-! ### The fixed lists -/

def Chamber.all : List Chamber := [.A, .B]

def Link.all : List Link := [.desk, .centre, .toll]

/-- The order in which devices of one time are taken (R10), and of the census (R204). -/
def Device.all : List Device :=
  [.gate .A .upper, .sluice .A .upper, .gate .A .lower, .sluice .A .lower,
   .gate .B .upper, .sluice .B .upper, .gate .B .lower, .sluice .B .lower, .xv]

/-- A chamber's devices in the order of R49: upper gate, upper sluice, lower gate, lower sluice. -/
def Chamber.devices (c : Chamber) : List Device :=
  [.gate c .upper, .sluice c .upper, .gate c .lower, .sluice c .lower]

def Place.all : List Place := [.chamber .A, .chamber .B, .pound .upper, .pound .lower]

/-! ### Relations between the names -/

def Chamber.other : Chamber → Chamber
  | .A => .B
  | .B => .A

def End.other : End → End
  | .upper => .lower
  | .lower => .upper

def Direction.other : Direction → Direction
  | .up => .down
  | .down => .up

/-- The entry end of a lockage, which is also the end of its approach queue (00, section 1.4; R105). -/
def Direction.entryEnd : Direction → End
  | .up => .lower
  | .down => .upper

/-- The exit end of a lockage. -/
def Direction.exitEnd (d : Direction) : End := d.entryEnd.other

/-- The chamber a device belongs to; XV belongs to neither (R1). -/
def Device.chamber? : Device → Option Chamber
  | .gate c _ => some c
  | .sluice c _ => some c
  | .xv => none

def Operator.link : Operator → Link
  | .desk => .desk
  | .centre => .centre

/-- The operator a link stands for; the toll link stands for none. -/
def Link.operator? : Link → Option Operator
  | .desk => some .desk
  | .centre => some .centre
  | .toll => none

/-! ### Phases (R42, R70) -/

/-- The working phases (R42). -/
def Phase.working : Phase → Bool
  | .forming | .turning | .preLevelling | .entryOpening | .entry | .entryClosing | .crossing | .levelling
  | .exitOpening | .exit => true
  | .outOfService | .idle | .hold | .safing | .lockedOut => false

/-- The sequencing phases: the working phases from TURNING to EXIT_OPENING (R42). -/
def Phase.sequencing (p : Phase) : Bool := p.working && p ≠ .forming && p ≠ .exit

/-- The phases of the plan window (R70). -/
def Phase.inPlanWindow : Phase → Bool
  | .forming | .turning | .preLevelling | .entryOpening | .entry => true
  | _ => false

/-- Exempt classes (R106). -/
def VesselClass.exempt : VesselClass → Bool
  | .service | .emergency => true
  | _ => false

end Sys2Proof
end

