-- ==== Sys2Proof/Machine/Fields.lean ====
section
/-! DEFINITION. The structured operands of the commands: what a request frame carries besides its kind code,
the tariff of LOAD TARIFF, the contents of a frame that the receiver finds, the answer of the converter. -/

namespace Sys2Proof

/-- What every request frame brings with it (R182, R185): the link it came by, the tag its master chose, and whether
the length of its contents matches the command (step 5 of R185). A typed operand stands for contents of the right
length. DESIGN CHOICE (log 20): the manual lays out no request's contents. -/
structure Frame where
  link : Link
  tag : Byte
  lengthMatches : Bool
  deriving DecidableEq, Repr

/-- The fields of REGISTER VESSEL (R109). `none` for a class or a direction is any code that names none. -/
structure Registration where
  mark : Mark
  cls : Option VesselClass
  length : Nat
  beam : Nat
  draught : Nat
  account : Nat
  direction : Option Direction
  deriving DecidableEq, Repr, Inhabited

/-- The five changeable fields that AMEND VESSEL carries (R111). -/
structure Amendment where
  length : Nat
  beam : Nat
  draught : Nat
  cls : Option VesselClass
  account : Nat
  deriving DecidableEq, Repr, Inhabited

/-- The base charge and the metre rate of a charged class (R155). -/
structure Rate where
  base : Nat
  metre : Nat
  deriving DecidableEq, Repr, Inhabited

/-- One value for each of the four charged classes (R155). -/
structure PerCharged (α : Type) where
  pleasure : α
  cargo : α
  tanker : α
  passenger : α
  deriving DecidableEq, Repr, Inhabited

/-- One value for each of the four bands (R155). -/
structure PerBand (α : Type) where
  f0 : α
  f1 : α
  f2 : α
  f3 : α
  deriving DecidableEq, Repr, Inhabited

/-- A tariff (R155). The band map lists the band of each hour of week. -/
structure Tariff where
  version : Nat
  rates : PerCharged Rate
  factors : PerBand Nat
  bandMap : List Nat
  water : Nat
  deriving DecidableEq, Repr, Inhabited

/-- A dated effective instant (R155). -/
structure Instant where
  day : Nat
  second : Nat
  deriving DecidableEq, Repr, Inhabited

/-- A byte on a link as it came to the receiver: its value, and how many milliseconds ago its last bit came (R183; log 32). -/
structure ArrivedByte where
  value : Byte
  age : Nat
  deriving DecidableEq, Repr, Inhabited

/-- How the configuration store takes a write and its read-back (R206, log 30): what it then holds where that is not what was
written, and what the read-back brings where that is not what it holds, as all ones when it does not answer (R203). -/
structure StoreAnswer where
  damage : Option (List Byte)
  readBack : Option (List Byte)
  deriving DecidableEq, Repr, Inhabited

/-- What the store holds after a write (R206). -/
def StoreAnswer.held (x : StoreAnswer) (written : List Byte) : List Byte := x.damage.getD written

/-- What the read-back after a write brings (R206). -/
def StoreAnswer.read (x : StoreAnswer) (written : List Byte) : List Byte := x.readBack.getD (x.held written)

/-- What the contents of a request frame carry, one field for each that some command has; the subject, the direction and the class
as their codes (R186). `block` of LOAD CONFIGURATION is the contents themselves; `store` how the store takes them. -/
structure Contents where
  lengthMatches : Bool
  subject : Nat
  direction : Nat
  handle : Nat
  mark : Option Mark
  list : List (Nat × Option Mark)
  mode : Option StepMode
  service : Option Service
  level : Nat
  store : StoreAnswer
  registration : Registration
  amendment : Amendment
  cls : Nat
  day : Nat
  second : Nat
  weekday : Nat
  tariff : Tariff
  effective : Option Instant
  account : Nat
  expected : Option Nat
  which : Nat
  queue : Option End
  place : Nat
  slot : Option Slot
  deriving DecidableEq, Repr, Inhabited

/-- The converter's answer to a scan as it was clocked in (R27, R28): the ready code, the eight readings in microamperes, the
check value. DESIGN CHOICE (log 23): the widths of ready code and readings are not in the manual. -/
structure ConverterAnswer where
  ready : Byte
  readings : PerPlace (PerSensor Nat)
  check : Check16
  deriving DecidableEq, Repr

end Sys2Proof
end

