-- ==== Sys2Proof/Syntax.lean ====
section
/-! DEFINITION. The commands of the NL-2: one constructor for each row of spec/opcode_table.json. The first operand of
every command is the time, in milliseconds of the part's own timer, that has passed since the command before it
(DESIGN CHOICE, log 1). -/

namespace Sys2Proof

/-- One command of the block: a request of a master, an answer or an input of the field, or the expiry of one of the
part's own timers. `none` in place of a chamber, a direction, a mode, a slot or a queue is any code that names none. -/
inductive Instr where
  /-- CLAIM (R189). -/
  | claim (dt : Nat) (f : Frame) (c : Option Chamber)
  /-- RELEASE (R190). -/
  | release (dt : Nat) (f : Frame) (c : Option Chamber)
  /-- PRESENT (R187). -/
  | present (dt : Nat) (f : Frame)
  /-- SEIZE (R192). -/
  | seize (dt : Nat) (f : Frame) (c : Option Chamber)
  /-- START LOCKAGE (R46). -/
  | startLockage (dt : Nat) (f : Frame) (c : Option Chamber) (d : Option Direction)
  /-- ADD VESSEL (R129): a handle and an optional expected mark. -/
  | addVessel (dt : Nat) (f : Frame) (c : Option Chamber) (handle : Nat) (mark : Option Mark)
  /-- CLOSE ENTRY (R52): the not-entered list, each entry a handle and an optional expected mark. -/
  | closeEntry (dt : Nat) (f : Frame) (c : Option Chamber) (list : List (Nat × Option Mark))
  /-- EXIT DONE (R58). -/
  | exitDone (dt : Nat) (f : Frame) (c : Option Chamber)
  /-- HOLD (R64). -/
  | hold (dt : Nat) (f : Frame) (c : Option Chamber)
  /-- RESUME (R67). -/
  | resume (dt : Nat) (f : Frame) (c : Option Chamber)
  /-- ABANDON (R68). -/
  | abandon (dt : Nat) (f : Frame) (c : Option Chamber)
  /-- ACKNOWLEDGE FAULT with subject A or B, or any subject that is not CROSS (R95). -/
  | acknowledgeFault (dt : Nat) (f : Frame) (c : Option Chamber)
  /-- ACKNOWLEDGE FAULT with subject CROSS (R84). -/
  | acknowledgeFaultCross (dt : Nat) (f : Frame)
  /-- SET MODE (R63). -/
  | setMode (dt : Nat) (f : Frame) (c : Option Chamber) (m : Option StepMode)
  /-- ADVANCE (R62). -/
  | advance (dt : Nat) (f : Frame) (c : Option Chamber)
  /-- SET SERVICE (R71). -/
  | setService (dt : Nat) (f : Frame) (c : Option Chamber) (v : Option Service)
  /-- SET ADMISSION (R118). -/
  | setAdmission (dt : Nat) (f : Frame) (c : Option Chamber) (level : Nat)
  /-- CLEAR LOCKOUT (R99). -/
  | clearLockout (dt : Nat) (f : Frame) (c : Option Chamber)
  /-- LAMP CHECK (R147). -/
  | lampCheck (dt : Nat) (f : Frame)
  /-- LOAD CONFIGURATION (R206): the contents, and how the store takes their write and read-back. -/
  | loadConfiguration (dt : Nat) (f : Frame) (block : List Byte) (store : StoreAnswer)
  /-- REGISTER VESSEL (R109). -/
  | registerVessel (dt : Nat) (f : Frame) (r : Registration)
  /-- AMEND VESSEL (R111). -/
  | amendVessel (dt : Nat) (f : Frame) (handle : Nat) (mark : Option Mark) (a : Amendment)
  /-- WITHDRAW VESSEL (R112). -/
  | withdrawVessel (dt : Nat) (f : Frame) (handle : Nat) (mark : Option Mark)
  /-- SET TIME (R153). -/
  | setTime (dt : Nat) (f : Frame) (day second weekday : Nat)
  /-- LOAD TARIFF (R156): no instant is IMMEDIATE. -/
  | loadTariff (dt : Nat) (f : Frame) (t : Tariff) (effective : Option Instant)
  /-- BLOCK ACCOUNT (R169). -/
  | blockAccount (dt : Nat) (f : Frame) (account : Nat)
  /-- UNBLOCK ACCOUNT (R169). -/
  | unblockAccount (dt : Nat) (f : Frame) (account : Nat)
  /-- PEEK RECORD (R175). -/
  | peekRecord (dt : Nat) (f : Frame)
  /-- TAKE RECORD (R175). -/
  | takeRecord (dt : Nat) (f : Frame) (expected : Option Nat)
  /-- CLOSE PERIOD (R177). -/
  | closePeriod (dt : Nat) (f : Frame)
  /-- READ PERIOD IMAGE (R178). -/
  | readPeriodImage (dt : Nat) (f : Frame) (account : Nat)
  /-- READ STATUS (R187). -/
  | readStatus (dt : Nat) (f : Frame) (which : Nat)
  /-- READ VESSEL (R121). -/
  | readVessel (dt : Nat) (f : Frame) (handle : Nat) (mark : Option Mark)
  /-- READ QUEUE (R122): the queue is named by its end. -/
  | readQueue (dt : Nat) (f : Frame) (queue : Option End) (place : Nat)
  /-- READ TARIFF (R158). -/
  | readTariff (dt : Nat) (f : Frame) (slot : Option Slot)
  /-- READ ACCOUNT (R170). -/
  | readAccount (dt : Nat) (f : Frame) (account : Nat)
  /-- A valid frame whose kind code is no request code (R185). -/
  | unknownCommand (dt : Nat) (link : Link) (code tag : Byte)
  /-- A frame with a bad length or a bad check: the bytes received, the start value first (R183). -/
  | frameInvalid (dt : Nat) (link : Link) (bytes : List ArrivedByte)
  /-- A frame cut short by an inter-byte gap: the bytes received, the start value first (R183). -/
  | frameGapTimeout (dt : Nat) (link : Link) (bytes : List ArrivedByte)
  /-- A request that meets a full reply slot and an empty busy slot (R184). -/
  | busyLink (dt : Nat) (link : Link) (code tag : Byte)
  /-- A request that meets a full reply slot and a full busy slot (R184). -/
  | frameDiscardedSlotsFull (dt : Nat) (link : Link) (code tag : Byte)
  /-- The last byte of the frame the link is sending has been sent (R184). -/
  | frameSent (dt : Nat) (link : Link)
  /-- The holder's silence expires (R193). -/
  | holderSilence (dt : Nat) (c : Chamber)
  /-- The claimant's silence expires (R194). -/
  | claimantSilence (dt : Nat) (c : Chamber)
  /-- A drive's answer to a START, with the drive's address (R12). -/
  | startAnswer (dt : Nat) (address : Nat) (accept : Bool)
  /-- A drive's answer to a STOP, with the drive's address (R13). -/
  | stopAnswer (dt : Nat) (address : Nat) (accept : Bool)
  /-- A drive's STATUS reply: the end position, overload, position-sensor disagreement (R15). -/
  | statusReply (dt : Nat) (address : Nat) (position : EndPosition) (overload disagreement : Bool)
  /-- 300 ms have passed since the request on the drive line was sent (R11). -/
  | driveAnswerTimeout (dt : Nat)
  /-- A frame on the drive line that is not a valid answer (R11). -/
  | driveFrameDiscarded (dt : Nat) (bytes : List Byte)
  /-- A filtered DONE input changes from INACTIVE to ACTIVE (R4, R14). -/
  | doneEvent (dt : Nat) (d : Device)
  /-- A travel deadline expires (R16). -/
  | travelDeadlineExpiry (dt : Nat) (d : Device)
  /-- The dead time of a waiting sluice runs out (R20). -/
  | deadTimeExpiry (dt : Nat) (c : Chamber) (e : End)
  /-- A filtered closed-limit input takes the value ACTIVE or INACTIVE (R4, R22). -/
  | limitInputChange (dt : Nat) (d : Device) (active : Bool)
  /-- A filtered sill beam input becomes INACTIVE (R4, R21). -/
  | sillBeamBreak (dt : Nat) (c : Chamber) (e : End)
  /-- A filtered sill beam input becomes ACTIVE (R4, R66). -/
  | sillBeamClear (dt : Nat) (c : Chamber) (e : End)
  /-- The limit trip of a chamber fires (R23). -/
  | limitConflict (dt : Nat) (c : Chamber)
  /-- The limit trip of a chamber re-arms (R23). -/
  | limitConflictRearm (dt : Nat) (c : Chamber)
  /-- The cross conflict trip fires (R24). -/
  | crossConflict (dt : Nat)
  /-- The cross conflict trip re-arms (R24, R89). -/
  | crossConflictRearm (dt : Nat)
  /-- The scan instant (R27). -/
  | scanStart (dt : Nat)
  /-- The scan completion, with what the converter answered (R27). -/
  | scanCompletion (dt : Nat) (answer : ConverterAnswer)
  /-- A chamber's level timer expires (R59). -/
  | levelTimeout (dt : Nat) (c : Chamber)
  /-- The lost age of a watched pair reaches the level-lost limit (R60). -/
  | levelLost (dt : Nat) (c : Chamber)
  /-- The wait timer of a chamber's claim expires (R78, R81). -/
  | crossWaitExpiry (dt : Nat) (c : Chamber)
  /-- The cross exchange timer expires (R79). -/
  | crossExchangeExpiry (dt : Nat)
  /-- A lamp-current sample at which the named lamp is latched as failed (R144); the monitors, true for ACTIVE. -/
  | lampLatch (dt : Nat) (h : Head) (l : LampName) (monitors : PerHead (PerLamp Bool))
  /-- A lamp-current sample at which the named lamp's stray value changes (R145). -/
  | lampStray (dt : Nat) (h : Head) (l : LampName) (monitors : PerHead (PerLamp Bool))
  /-- The tick of the lock clock (R151). -/
  | clockTick (dt : Nat)
  /-- The cabinet reset line is found asserted on three consecutive samples (R201). -/
  | resetLineHeld (dt : Nat)
  /-- The core supply falls below 3.0 V (R201). -/
  | mainPowerHeld (dt : Nat)
  /-- The part is released from its hold (R201, R202). -/
  | partReleased (dt : Nat)
  /-- The retained supply is below 1.8 V on three samples (R202). -/
  | batteryLow (dt : Nat)
  /-- The read of the configuration block ends; whether the store answered (R203). -/
  | configReadEnd (dt : Nat) (storeAnswers : Bool)
  /-- The wait before the census ends (R204). -/
  | censusQueries (dt : Nat)
  /-- The 100 ms lamp-current sample (R144, R145). -/
  | lampCurrentSample (dt : Nat) (monitors : PerHead (PerLamp Bool))
  /-- A change of a filtered DONE input that is not a DONE event (R4). -/
  | doneInputChange (dt : Nat) (d : Device) (active : Bool)
  deriving DecidableEq, Repr

end Sys2Proof
end

