-- ==== Sys2Proof/Decode.lean ====
section
/-! DEFINITION. The commands that words spell by the bits of spec/opcode_table.json. -/

namespace Sys2Proof

/-- No row of the table gives bits ("fields" is empty in each), so no word spells a command: the commands of this block are
frames, answers, inputs and timers, not instruction words. -/
def decodeTableWord (_nbits _w : Nat) : Option Instr := none

end Sys2Proof
end

