-- ==== Sys2Proof/Config.lean ====
section
/-! DEFINITION. The configuration block (R203), what a new block holds (00, section 1.4), and free values. -/

namespace Sys2Proof

/-- The per-chamber items of the block (R203). -/
structure ChamberConfig where
  usableLength : Nat
  clearWidth : Nat
  planArea : Nat
  upperSill : Int
  lowerSill : Int
  levellingLimit : Nat
  deriving DecidableEq, Repr

/-- The calibration of a channel, in millimetres (R29, R30). -/
structure ChannelConfig where
  zero : Int
  span : Nat
  deriving DecidableEq, Repr

/-- The five configurable class priorities; EMERGENCY is always 7 (R106, R203). -/
structure Priorities where
  pleasure : Nat
  cargo : Nat
  tanker : Nat
  passenger : Nat
  service : Nat
  deriving DecidableEq, Repr

/-- Every field of the configuration block but its CRC-32 (R203). Limits in seconds, as configured. -/
structure ConfigBlock where
  format : Nat
  chambers : PerChamber ChamberConfig
  sideClearance : Nat
  vesselSpacing : Nat
  keelClearance : Nat
  equalizeWindow : Nat
  agreementTolerance : Nat
  sluiceDeadTime : Nat
  gateTravelLimit : Nat
  sluiceTravelLimit : Nat
  crossTravelLimit : Nat
  crossWaitLimit : Nat
  crossExchangeLimit : Nat
  crossMinimumHead : Nat
  crossStopMargin : Nat
  levelLostLimit : Nat
  holderSilenceLimit : Nat
  priorities : Priorities
  channels : PerPlace (PerSensor ChannelConfig)
  addresses : PerDevice Nat
  deriving DecidableEq, Repr

/-- What the contents of a request frame of a kind code carry. A FREE VALUE (log 32): the manual lays out no request's contents
(log 20), so a frame that the receiver finds among the bytes of a discarded one may carry any fields. -/
opaque Config.contentsOf : Byte → List Byte → Contents

/-- The converter's ready value (R28). A FREE VALUE (log 23): the manual does not give it. -/
opaque Config.converterReady : Byte

/-- The kind code of the reply to a frame whose own kind code is 128 or more. A FREE VALUE (log 18): a reply's kind code
is the frame's code plus 128 (R182), which no byte holds for such a code. -/
opaque Config.replyKindAbove : Byte → Byte

/-- How many bytes the body of a frame gives to a number, by the name of its field. A FREE VALUE (log 50): R182 gives the order of
the bytes, and the manual the width of a few fields only. -/
opaque Config.numberWidth : String → Nat

/-- The bytes of a field that the manual names without a code, by the name of the field and the place of its value among those that
the manual lists. A FREE VALUE (log 50). -/
opaque Config.unstatedBytes : String → Nat → List Byte

/-- The bytes of a text outside the journal record, by the name of the field and its characters. A FREE VALUE (log 50). -/
opaque Config.textBytes : String → List Nat → List Byte

/-- A new configuration block as the store holds it: the defaults of 00, section 1.4, with its CRC-32.
DESIGN CHOICE (log 3): zero 0 mm and span 10 000 mm for every channel, and the drive addresses 1 to 9 in the order of
R203, which have no default in the manual. -/
def Config.newBlock : List Byte :=
  -- format number; chamber A; chamber B
  [1] ++
  [7, 58, 0, 125, 9, 71, 10, 240, 238, 8, 3, 132] ++
  [4, 126, 0, 120, 5, 220, 10, 240, 238, 8, 2, 88] ++
  -- side clearance, vessel spacing, keel clearance; equalize window, agreement tolerance, dead time
  [3, 20, 1, 44] ++
  [40, 0, 60, 10] ++
  -- gate, sluice and cross valve travel limits; cross wait, exchange limit, minimum head, stop margin
  [0, 240, 0, 90, 0, 120] ++
  [0, 90, 2, 88, 1, 244, 0, 150] ++
  -- level-lost limit, holder silence limit; priorities
  [30, 30] ++
  [1, 3, 3, 4, 5] ++
  -- channels A1 to L2; drive addresses; CRC-32
  [0, 0, 39, 16, 0, 0, 39, 16, 0, 0, 39, 16, 0, 0, 39, 16,
   0, 0, 39, 16, 0, 0, 39, 16, 0, 0, 39, 16, 0, 0, 39, 16] ++
  [1, 2, 3, 4, 5, 6, 7, 8, 9] ++
  [107, 54, 251, 112]

end Sys2Proof
end

