-- ==== Sys2Proof/Machine/State.lean ====
section
/-! DEFINITION. The state of the NL-2, block by block as 00 (section 1.2) lists its blocks, plain data throughout, and the
state right after reset. INVENTORY.md lists every field with its rule and its reset value. -/

namespace Sys2Proof.Machine

/-! ### Chamber devices and the drive link (01) -/

/-- The queue entry of a device with the time at which it was placed or last replaced (R9). -/
structure QueueEntry where
  task : Task
  stamp : Nat
  deriving DecidableEq, Repr

/-- One device record (R1). The address is read from the configuration block image, where it stands once. -/
structure DeviceRecord where
  position : Position
  outstanding : Option Order
  queued : Option QueueEntry
  onLine : Option Task
  awaitingDone : Bool
  travelDeadline : Option Nat
  reportedEnd : Option EndPosition
  lastClosed : Option Nat
  faultKind : Option FaultKind
  nextStart : Option Target
  queryFlag : Bool
  deriving DecidableEq, Repr

/-- A trip of section 1.7: enabled from the end of the configuration read, and armed between onsets (R23, R24). The samples from the
moment `since` on have found its condition as it stands now (log 59). -/
structure Trip where
  enabled : Bool
  armed : Bool
  since : Nat
  deriving DecidableEq, Repr

/-- The moments at which the filtered state of each discrete input last changed (R4; log 9): three samples must follow before it
changes again. -/
structure InputMoments where
  limits : PerDevice Nat
  beams : PerChamber (PerEnd Nat)
  dones : PerDevice Nat
  deriving DecidableEq, Repr

/-- The drive link controller: its records, the bars (R25), the moment at which the request on the line was sent (R11),
the filtered inputs (R4) with the moments of their last changes, and the trips. `conflictKept` says that XV's CROSS_CONFLICT waits
for the desk's acknowledgement (R101; log 61). -/
structure DriveController where
  devices : PerDevice DeviceRecord
  barred : PerChamber Bool
  sentAt : Option Nat
  limits : PerDevice Filtered
  beams : PerChamber (PerEnd Filtered)
  dones : PerDevice Filtered
  turned : InputMoments
  limitTrips : PerChamber Trip
  crossTrip : Trip
  conflictKept : Bool
  deriving DecidableEq, Repr

/-! ### Water levels (02) -/

/-- Why a channel is LOST (R29). -/
inductive LostReason where
  | noAnswer
  | low
  | high
  deriving DecidableEq, Repr

/-- Validity of a channel with what goes with it: the level while VALID, the reason while LOST (R29). -/
inductive Reading where
  | valid (level : Int)
  | lost (reason : LostReason)
  deriving DecidableEq, Repr

/-- Validity of a channel with its lost reason, without its level (R33). -/
inductive Validity where
  | valid
  | lost (reason : LostReason)
  deriving DecidableEq, Repr

/-- One channel record (R29). Zero and span stand in the configuration block image. -/
structure ChannelRecord where
  current : Option Nat
  reading : Reading
  deriving DecidableEq, Repr

/-- Quality of a pair with its value while usable (R31). -/
inductive PairState where
  | good (value : Int)
  | single (value : Int)
  | disagree
  | invalid
  deriving DecidableEq, Repr

/-- The last valid value of a pair and its time (R32). -/
structure LastValid where
  value : Int
  time : Nat
  deriving DecidableEq, Repr

/-- One pair record (R31, R32). -/
structure PairRecord where
  state : PairState
  last : Option LastValid
  deriving DecidableEq, Repr

/-- The level scanner (02): records, counters and scan timing. `lastScan` is the moment of the most recent scan completion, whose
figures READ STATUS reports (R41). -/
structure LevelScanner where
  channels : PerPlace (PerSensor ChannelRecord)
  pairs : PerPlace PairRecord
  counters : PerChamber (PerEnd Nat)
  nextScan : Option Nat
  exchanging : Bool
  firstScan : Option Nat
  lastScan : Option Nat
  deriving DecidableEq, Repr

/-! ### Clock and tariffs (09) -/

/-- The lock clock (R151), with the moment at which its next tick falls (R153). -/
structure Clock where
  time : LockTime
  isSet : Bool
  nextTick : Nat
  deriving DecidableEq, Repr

/-- The tariff in PENDING with its dated instant (R155). -/
structure PendingTariff where
  tariff : Tariff
  instant : Instant
  deriving DecidableEq, Repr

/-- The charge unit (09). -/
structure ChargeUnit where
  clock : Clock
  current : Option Tariff
  pending : Option PendingTariff
  deriving DecidableEq, Repr

/-- The snapshot of a lockage (R159). -/
structure Snapshot where
  version : Nat
  rates : PerCharged Rate
  water : Nat
  band : Nat
  factor : Nat
  clockSet : Bool
  deriving DecidableEq, Repr

/-! ### The sequencer and the lockage record (03), faults (05) -/

/-- A vessel in a plan: ABOARD or still ASSIGNED (R43). -/
structure PlanEntry where
  handle : Nat
  aboard : Bool
  deriving DecidableEq, Repr

/-- The journal reservation a lockage record holds (R126). -/
inductive Reservation where
  | none
  | normal
  | emergency
  deriving DecidableEq, Repr

/-- The lockage record (R43). -/
structure LockageRecord where
  serial : Nat
  direction : Direction
  plan : List PlanEntry
  usedLength : Nat
  reservation : Reservation
  snapshot : Snapshot
  startTime : LockTime
  startMark : Option Int
  endMark : Option Int
  crossStart : Option (PerChamber Int)
  crossEnd : Option (PerChamber Int)
  crossUsed : Bool
  emergency : Bool
  deriving DecidableEq, Repr

/-- The hold reasons of a chamber, one bit each (R42). -/
structure HoldSet where
  commanded : Bool
  seized : Bool
  noHolder : Bool
  sill : Bool
  signal : Bool
  fault : Bool
  deriving DecidableEq, Repr

/-- One fault of a fault record (R90). -/
structure FaultEntry where
  kind : FaultKind
  device : Option Device
  time : LockTime
  deriving DecidableEq, Repr

/-- The fault record of a chamber (R90). -/
structure FaultRecord where
  first : Option FaultEntry
  second : Option FaultEntry
  acknowledged : Bool
  deriving DecidableEq, Repr

/-- The state of one sequencer (R42), its fault record (R90) and its cross conflict taken flag (R89). `timerDue` is the
model's own: the present visit has not yet started its level timer and is to start it (R59, log 17). -/
structure Sequencer where
  phase : Phase
  lockage : Option LockageRecord
  holds : HoldSet
  resume : Option Phase
  stepMode : StepMode
  stepWait : Option (Device × Target)
  entryExcuse : Bool
  levelReached : Bool
  levelTimer : Option Nat
  timerDue : Bool
  levelLostRaised : Bool
  faults : FaultRecord
  crossConflictTaken : Bool
  deriving DecidableEq, Repr

/-! ### Cross-filling (04) -/

/-- The need of a claim (R75). -/
inductive Need where
  | drain
  | fill
  deriving DecidableEq, Repr

/-- A cross claim (R74). -/
structure CrossClaim where
  need : Need
  registered : Nat
  waitExpiry : Nat
  waitRunning : Bool
  deriving DecidableEq, Repr

/-- The grant (R74): the two chambers and the serial of each chamber's record at the grant. -/
structure Grant where
  drain : Chamber
  fill : Chamber
  serials : PerChamber Nat
  deriving DecidableEq, Repr

/-- The exchange stage (R74). -/
inductive ExchangeStage where
  | none
  | opening
  | flowing
  | closing
  deriving DecidableEq, Repr

/-- The cross arbiter (R74). -/
structure CrossArbiter where
  claims : PerChamber (Option CrossClaim)
  grant : Option Grant
  stage : ExchangeStage
  valveAccepted : Bool
  exchangeTimer : Option Nat
  stopCounter : Nat
  deriving DecidableEq, Repr

/-! ### Signals (08) -/

/-- One lamp record (R140). -/
structure LampRecord where
  commanded : Bool
  failed : Bool
  lowCount : Nat
  stray : Bool
  strayCount : Nat
  deriving DecidableEq, Repr

/-- One head record with its three lamps (R140). -/
structure HeadRecord where
  required : Aspect
  shown : Aspect
  lamps : PerLamp LampRecord
  deriving DecidableEq, Repr

/-! ### Vessels, queues and plan planStacks (06, 07) -/

/-- Where a vessel stands, with its chamber (R104, R105). -/
inductive VesselState where
  | waiting
  | assigned (c : Chamber)
  | saved (c : Chamber)
  | aboard (c : Chamber)
  deriving DecidableEq, Repr

/-- A vessel record in use (R104). -/
structure Vessel where
  handle : Nat
  mark : Mark
  cls : VesselClass
  length : Nat
  beam : Nat
  draught : Nat
  account : Nat
  direction : Direction
  arrival : LockTime
  state : VesselState
  deferral : Option Deferral
  deriving DecidableEq, Repr

/-- A saved plan (R136). -/
structure SavedPlan where
  direction : Direction
  formed : LockTime
  handles : List Nat
  deriving DecidableEq, Repr

/-- The traffic unit. The vessel table lists the records in use by rising handle (at most 48, R104); the approach
queues are named by their ends; the top of a plan stack is its first entry (R136). -/
structure TrafficUnit where
  vessels : List Vessel
  queues : PerEnd (List Nat)
  admission : PerChamber Nat
  planStacks : PerChamber (List SavedPlan)
  deriving DecidableEq, Repr

/-! ### Accounts, journal and periods (10) -/

/-- One account record (R167). -/
structure Account where
  blocked : Bool
  total : Nat
  saturated : Bool
  count : Nat
  lastCharged : Option LockTime
  deriving DecidableEq, Repr

/-- One entry of a charge record (R164). -/
structure ChargeEntry where
  mark : Mark
  account : Nat
  cls : VesselClass
  length : Nat
  own : Nat
  share : Nat
  deriving DecidableEq, Repr

/-- A charge record (R164); the period is stamped at the posting (R174). -/
structure ChargeRecord where
  period : Nat
  serial : Nat
  chamber : Chamber
  direction : Direction
  formed : LockTime
  finalized : LockTime
  clockUnset : Bool
  version : Nat
  band : Nat
  factor : Nat
  travel : Nat
  volume : Nat
  waterCharge : Nat
  crossVolume : Option Nat
  unallocated : Nat
  emergency : Bool
  entries : List ChargeEntry
  deriving DecidableEq, Repr

/-- One account's entry of the period image (R178). -/
structure ImageEntry where
  total : Nat
  saturated : Bool
  count : Nat
  deriving DecidableEq, Repr

/-- What a period close writes beside the closed period number (R178), one entry for each of the 256 accounts in order. -/
structure ImageContents where
  closeTime : LockTime
  clockSet : Bool
  entries : List ImageEntry
  deriving DecidableEq, Repr

/-- The period image (R178): the closed period number, which an empty image carries as 0, and what the close wrote. -/
structure PeriodImage where
  period : Nat
  contents : Option ImageContents
  deriving DecidableEq, Repr

/-- The accounting unit (10): the 256 accounts in order, the finalized list oldest first. -/
structure AccountingUnit where
  accounts : List Account
  journal : List ChargeRecord
  reservations : Nat
  period : Nat
  image : PeriodImage
  serial : Nat
  deriving DecidableEq, Repr

/-! ### Authority (11) -/

/-- The authority fields of a chamber (R188). -/
structure Authority where
  holder : Option Operator
  pendingClaim : Option Operator
  releaseWaiting : Bool
  deriving DecidableEq, Repr

/-! ### Start-up (12) -/

/-- The start stage (R200). -/
inductive Stage where
  | reset
  | reading
  | census
  | ended
  deriving DecidableEq, Repr

/-- The recorded cause of an INVALID configuration (R203); RANGE names the field. -/
inductive ConfigCause where
  | format
  | check
  | range (field : String)
  | address
  deriving DecidableEq, Repr

/-- The configuration state (R200). Until the read ends it is INVALID without a cause. -/
inductive ConfigState where
  | valid
  | invalid (cause : Option ConfigCause)
  deriving DecidableEq, Repr

/-- The start kinds that STARTED reports (R205). -/
inductive StartKind where
  | cold
  | warm
  | lineReset
  | reconfigured
  deriving DecidableEq, Repr

/-- What holds the part (R201, R202, R206): the reset line, the main power, an accepted LOAD CONFIGURATION; and whether
main power was lost at any moment of the hold. `lineTurned` and `powerTurned` are the moments at which the line and the power last
became held or released: three 1 ms samples must follow before they turn again (log 9). -/
structure Hold where
  line : Bool
  power : Bool
  reconfigure : Bool
  powerLost : Bool
  lineTurned : Nat
  powerTurned : Nat
  deriving DecidableEq, Repr

/-- The start-up and retained-domain controller (R200), with the external configuration store. -/
structure StartUp where
  retainedValid : Bool
  stage : Stage
  config : ConfigState
  image : Option ConfigBlock
  kind : StartKind
  censusSince : Nat
  queriesPlaced : Bool
  hold : Hold
  reconfigurePending : Bool
  store : List Byte
  deriving DecidableEq, Repr

/-! ### Frames, replies and notices (11) -/

/-- The result codes (R186, "Codes"). -/
inductive Result where
  | ok
  | busyLink
  | unknownCommand
  | notPermitted
  | notHolder
  | wrongPhase
  | badValue
  | condition
  | unknownVessel
  | tableFull
  | duplicate
  | tooLarge
  | accountBlocked
  | noRoom
  | notAdmissible
  | noRecordSpace
  | empty
  deriving DecidableEq, Repr

/-- The subjects of notices and requests (R186, "Codes"). -/
inductive Subject where
  | chamber (c : Chamber)
  | lock
  | cross
  deriving DecidableEq, Repr

/-- The notice kinds (R198). -/
inductive NoticeKind where
  | phaseChanged
  | stepWait
  | claimPending
  | emergencyPreempt
  | holdEntered
  | faultRaised
  | lockedOut
  | authorityChanged
  | vesselDeferred
  | levelQuality
  | lampFailed
  | clockSet
  | tariffSwitched
  | journalLow
  | recordPosted
  | periodClosed
  | started
  deriving DecidableEq, Repr

/-- The class of a taken fault (R90, R91). -/
inductive FaultClass where
  | first
  | second
  | later
  deriving DecidableEq, Repr

/-- The causes of AUTHORITY_CHANGED (R195). -/
inductive AuthorityCause where
  | claim
  | release
  | handOver
  | seize
  | silence
  | claimantSilence
  deriving DecidableEq, Repr

/-- A deferred vessel as VESSEL_DEFERRED lists it (R120). -/
structure DeferredEntry where
  handle : Nat
  mark : Mark
  priority : Nat
  reason : Deferral
  deriving DecidableEq, Repr

/-- A place of the level image as LEVEL_QUALITY shows it (R33): quality and value of the pair, validity and lost reason of its
two channels. -/
structure PlaceLevels where
  pair : PairState
  one : Validity
  two : Validity
  deriving DecidableEq, Repr

/-- A head as LAMP_FAILED shows it (R148). -/
structure HeadView where
  required : Aspect
  shown : Aspect
  redDark : Bool
  failed : PerLamp Bool
  stray : PerLamp Bool
  deriving DecidableEq, Repr

/-- The data of a notice, by kind (R198 names the producing rule of each). -/
inductive NoticeData where
  | phaseChanged (phase left : Phase) (resume : Option Phase) (lockage : Option (Nat × Direction))
  | stepWait (phase : Phase) (device : Device) (target : Target)
  | claimPending (claimant : Operator) (phase : Phase)
  | emergencyPreempt (chamber : Chamber) (direction : Direction) (handle : Nat) (mark : Mark)
      (savedDirection : Direction) (formed : LockTime) (vessels depth : Nat)
  | holdEntered (holds : HoldSet) (resume : Option Phase) (reason : HoldReason)
  | faultRaised (fault : FaultEntry) (cls : Option FaultClass) (phase : Option Phase)
  | lockedOut (chamber : Chamber) (first second : Option FaultEntry) (resume : Option Phase) (serial : Option Nat)
  | authorityChanged (now : Authority) (before : Option Operator) (cause : AuthorityCause)
  | vesselDeferred (queue : End) (count : Nat) (entries : List DeferredEntry)
  | levelQuality (places : List PlaceLevels)
  | lampFailed (head : Head) (lamp : LampName) (stray : Bool) (heads : PerEnd (PerSide HeadView))
  | clockSet (time : LockTime) (before : LockTime) (wasSet : Bool)
  | tariffSwitched (version replaced : Nat) (time : LockTime)
  | journalLow (free finalized reservations : Nat) (oldest : Option (Nat × Nat))
  | recordPosted (serial : Nat) (chamber : Chamber) (period total finalized free : Nat)
  | periodClosed (closed new : Nat) (time : LockTime)
  | started (kind : StartKind) (config : ConfigState) (clockSet : Bool) (period finalized serial : Nat)
  deriving DecidableEq, Repr

/-- A notice in a link's queue (R197). -/
structure Notice where
  kind : NoticeKind
  subject : Subject
  data : NoticeData
  deriving DecidableEq, Repr

/-- Section 1 of READ STATUS (R187). -/
structure LockStatus where
  time : LockTime
  clockSet : Bool
  currentVersion : Nat
  pendingVersion : Nat
  pendingInstant : Option Instant
  finalized : Nat
  reservations : Nat
  free : Nat
  period : Nat
  serial : Nat
  stage : Stage
  config : ConfigState
  format : Option Nat
  authority : PerChamber Authority
  cross : CrossArbiter
  deriving DecidableEq, Repr

/-- The fields of the table of R42, with the lockage record and the fault record: what READ STATUS shows of a sequencer (R187). -/
structure SequencerStatus where
  phase : Phase
  lockage : Option LockageRecord
  holds : HoldSet
  resume : Option Phase
  stepMode : StepMode
  stepWait : Option (Device × Target)
  entryExcuse : Bool
  levelReached : Bool
  levelTimer : Option Nat
  levelLostRaised : Bool
  faults : FaultRecord
  deriving DecidableEq, Repr

/-- Sections 2 and 3 of READ STATUS (R187): the sequencer with its lockage record and fault record, the plan stack, the
admission level, the four heads and twelve lamps. -/
structure ChamberStatus where
  sequencer : SequencerStatus
  stack : List SavedPlan
  admission : Nat
  heads : PerEnd (PerSide HeadRecord)
  deriving DecidableEq, Repr

/-- Section 4 of READ STATUS (R187): the records, and the addresses of the block image when there is one. -/
structure DeviceStatus where
  addresses : Option (PerDevice Nat)
  records : PerDevice DeviceRecord
  deriving DecidableEq, Repr

/-- Section 5 of READ STATUS (R41, R187). -/
structure LevelStatus where
  channels : PerPlace (PerSensor ChannelRecord)
  calibrations : Option (PerPlace (PerSensor ChannelConfig))
  pairs : PerPlace PairRecord
  lostAges : PerPlace (Option Nat)
  counters : PerChamber (PerEnd Nat)
  deriving DecidableEq, Repr

/-- The reply of READ VESSEL (R121): `planPlace` for an ASSIGNED or ABOARD vessel, counted from 1; `savedPlace` for a
SAVED vessel, the place of its saved plan counted from the top and its place within it, both from 1. -/
structure VesselView where
  vessel : Vessel
  priority : Nat
  exempt : Bool
  planPlace : Option Nat
  savedPlace : Option (Nat × Nat)
  deriving DecidableEq, Repr

/-- One entry of the READ QUEUE reply (R122). -/
structure QueueView where
  place : Nat
  handle : Nat
  mark : Mark
  cls : VesselClass
  priority : Nat
  arrival : LockTime
  deferral : Option Deferral
  deriving DecidableEq, Repr

/-- The data of a reply after its result code. -/
inductive ReplyData where
  | none
  | claimed (holder pendingClaim : Option Operator)
  | authority (a : Authority)
  | presence (own : Link) (authority : PerChamber Authority)
  | handle (h : Nat)
  | record (bytes : List Byte) (finalized : Nat)
  | closedPeriod (n : Nat)
  | periodEntry (e : ImageEntry) (period : Nat) (closeTime : LockTime) (clockSet : Bool)
  | lock (v : LockStatus)
  | chamber (v : ChamberStatus)
  | devices (v : DeviceStatus)
  | levels (v : LevelStatus)
  | vessel (v : VesselView)
  | queue (length deferred : Nat) (entries : List QueueView)
  | tariff (t : Tariff) (effective : Option Instant)
  | account (a : Account) (period : Nat)
  deriving DecidableEq, Repr

/-- A reply in a reply slot or busy slot (R182, R184). -/
structure ReplyFrame where
  kind : Byte
  tag : Byte
  result : Result
  data : ReplyData
  deriving DecidableEq, Repr

/-- The frame a link's transmitter is sending (R184); a notice carries its tag, the sequence number (R197). -/
inductive Sending where
  | reply
  | busy
  | notice (tag : Byte) (n : Notice)
  deriving DecidableEq, Repr

/-- One link port (R183, R184, R197). -/
structure LinkPort where
  lastFrame : Option Nat
  receive : List Byte
  reply : Option ReplyFrame
  busy : Option ReplyFrame
  queue : List Notice
  sequence : Byte
  sending : Option Sending
  deriving DecidableEq, Repr

/-! ### The event in progress (the model's own) -/

/-- A notice produced in the present event, before its data are taken from the state after the event (R197, log 10). -/
inductive Produced where
  | phaseChanged (c : Chamber) (left : Phase)
  | stepWait (c : Chamber) (device : Device) (target : Target)
  | claimPending (c : Chamber) (claimant : Operator)
  | emergencyPreempt (c : Chamber) (direction : Direction) (handle : Nat) (mark : Mark)
      (savedDirection : Direction) (formed : LockTime) (vessels depth : Nat)
  | holdEntered (c : Chamber) (reason : HoldReason)
  | faultTaken (c : Chamber) (fault : FaultEntry) (cls : FaultClass)
  | crossFaulted (fault : FaultEntry)
  | lockedOut (c : Chamber)
  | authorityChanged (c : Chamber) (before : Option Operator) (cause : AuthorityCause)
  | vesselDeferred (e : End)
  | levelQuality (s : Subject)
  | lampFailed (h : Head) (lamp : LampName) (stray : Bool)
  | clockSet (before : LockTime) (wasSet : Bool)
  | tariffSwitched (version replaced : Nat) (time : LockTime)
  | journalLow
  | recordPosted (serial : Nat) (chamber : Chamber) (period total : Nat)
  | periodClosed (closed new : Nat) (time : LockTime)
  | started
  deriving DecidableEq, Repr

/-- A fault report on its way to the block that takes it (R3, R87): from a device record to its owner, from a chamber's
own trip or sequencer, from the cross trip. -/
inductive Report where
  | device (d : Device) (kind : FaultKind) (time : LockTime)
  | chamber (c : Chamber) (f : FaultEntry)
  | crossTrip (time : LockTime)
  deriving DecidableEq, Repr

/-- What lives inside one event only: the devices FAULTED before it (R96), the reports not yet taken, the notices
produced so far, the queues whose deferral reasons it set (R120), and whether XV became confirmed CLOSED in it (R80). -/
structure Event where
  faultedBefore : PerDevice Bool
  reports : List Report
  produced : List Produced
  deferred : PerEnd Bool
  crossClosed : Bool
  deriving DecidableEq, Repr

/-! ### The whole state -/

/-- The state of the NL-2. `now` is the part's own timer in milliseconds (log 1); `pending` the commands that wait, first
in, first out; `nextLampSample` the moment of the next lamp-current sample (R144); `samplesFrom` the moment from which the
20 ms samples of the inputs follow (R4, R23, R24; log 59); `event` is at its blank value between events. -/
structure State where
  now : Nat
  pending : List Instr
  drive : DriveController
  levels : LevelScanner
  seqs : PerChamber Sequencer
  cross : CrossArbiter
  heads : PerHead HeadRecord
  nextLampSample : Nat
  samplesFrom : Nat
  traffic : TrafficUnit
  charge : ChargeUnit
  acct : AccountingUnit
  auth : PerChamber Authority
  links : PerLink LinkPort
  start : StartUp
  event : Event
  deriving DecidableEq, Repr

/-! ### The blank values of the blocks (R26, R39, R73, R86, R103, R124, R139, R150, R166, R181, R199, R200) -/

/-- A device record after any start (R26). -/
def DeviceRecord.initial : DeviceRecord :=
  { position := .stopped, outstanding := none, queued := none, onLine := none, awaitingDone := false,
    travelDeadline := none, reportedEnd := none, lastClosed := none, faultKind := none, nextStart := none,
    queryFlag := false }

/-- The drive link controller after any start (R26). -/
def DriveController.initial : DriveController :=
  { devices := .all .initial, barred := .both false, sentAt := none, limits := .all .unknown,
    beams := .both (.both .unknown), dones := .all .unknown,
    turned := ⟨.all 0, .both (.both 0), .all 0⟩, limitTrips := .both ⟨false, true, 0⟩, crossTrip := ⟨false, true, 0⟩,
    conflictKept := false }

/-- The level scanner after any start (R39). -/
def LevelScanner.initial : LevelScanner :=
  { channels := .all (.both ⟨none, .lost .noAnswer⟩), pairs := .all ⟨.invalid, none⟩,
    counters := .both (.both 0), nextScan := none, exchanging := false, firstScan := none,
    lastScan := none }

def HoldSet.empty : HoldSet := ⟨false, false, false, false, false, false⟩

/-- A sequencer after any start (R73, R103). -/
def Sequencer.initial : Sequencer :=
  { phase := .idle, lockage := none, holds := .empty, resume := none, stepMode := .auto, stepWait := none,
    entryExcuse := false, levelReached := false, levelTimer := none, timerDue := false, levelLostRaised := false,
    faults := ⟨none, none, false⟩, crossConflictTaken := false }

/-- The cross arbiter after any start (R86). -/
def CrossArbiter.initial : CrossArbiter :=
  { claims := .both none, grant := none, stage := .none, valveAccepted := false, exchangeTimer := none,
    stopCounter := 0 }

/-- A lamp that is commanded as given, with nothing latched or counted (R150). -/
def LampRecord.initial (commanded : Bool) : LampRecord := ⟨commanded, false, 0, false, 0⟩

/-- A head after any start: RED on red1 (R150). -/
def HeadRecord.initial : HeadRecord :=
  { required := .red, shown := .red, lamps := ⟨.initial true, .initial false, .initial false⟩ }

/-- The traffic unit after any start (R124, R139). -/
def TrafficUnit.initial : TrafficUnit :=
  { vessels := [], queues := .both [], admission := .both 0, planStacks := .both [] }

/-- An account after a cold start (R181). -/
def Account.initial : Account := ⟨false, 0, false, 0, none⟩

/-- The accounting unit after a cold start (R181). -/
def AccountingUnit.cold : AccountingUnit :=
  { accounts := List.replicate 256 .initial, journal := [], reservations := 0, period := 1, image := ⟨0, none⟩,
    serial := 0 }

/-- The authority fields of a chamber after any start (R199). -/
def Authority.initial : Authority := ⟨none, none, false⟩

/-- A link port after any start (R199). -/
def LinkPort.initial : LinkPort :=
  { lastFrame := none, receive := [], reply := none, busy := none, queue := [], sequence := 0, sending := none }

/-- No event in progress. -/
def Event.blank : Event := ⟨.all false, [], [], .both false, false⟩

/-! ### Faults and refusals of a step -/

/-- The reasons for which a step of the block may stop with a fault: there is none. Every fault of the manual is a report
that a chamber takes (05), and every event leaves a next state. -/
inductive Fault where
  deriving DecidableEq, Repr

/-- The reasons for which a step may be refused. -/
inductive Refusal where
  /-- Raised by `exec` for a command that has no meaning yet; no arm of `exec` answers so now. Safe: the model stops. -/
  | notModelled (mnemonic : String)
  deriving DecidableEq, Repr

/-- What the meaning of a command answers. -/
abbrev Outcome := Host.Outcome State Fault Refusal

/-- The machine right after reset: the moment of the release of the first power-on, a cold start (R202; log 2), with a new
configuration block in the store (log 3). -/
def State.reset : State :=
  { now := 0
    pending := []
    drive := .initial
    levels := .initial
    seqs := .both .initial
    cross := .initial
    heads := .all .initial
    nextLampSample := 100
    samplesFrom := 0
    traffic := .initial
    charge := { clock := ⟨⟨0, 0, 0⟩, false, 1000⟩, current := none, pending := none }
    acct := .cold
    auth := .both .initial
    links := .all .initial
    start :=
      { retainedValid := true, stage := .reading, config := .invalid none, image := none, kind := .cold,
        censusSince := 0, queriesPlaced := false, hold := ⟨false, false, false, false, 0, 0⟩, reconfigurePending := false,
        store := Config.newBlock }
    event := .blank }

end Sys2Proof.Machine
end

