-- ==== Sys2Proof/Machine/Bytes.lean ====
section
/-! DEFINITION. Bytes on the wires and in the store: the two check values, the frame envelope (R182, R183), the converter's
answer (R27), the codes (R186, R198), the drive frames (R11), the journal record layout (R175). Bodies.lean holds the bodies of replies
and notices. -/

namespace Sys2Proof.Machine

/-! ### Numbers, most significant byte first (R182) -/

def byte (n : Nat) : Byte := BitVec.ofNat 8 n

def be16 (n : Nat) : List Byte := [byte (n / 256), byte n]

def be24 (n : Nat) : List Byte := [byte (n / 65536), byte (n / 256), byte n]

def be32 (n : Nat) : List Byte := [byte (n / 16777216), byte (n / 65536), byte (n / 256), byte n]

/-- A number in a given width, most significant byte first (R182). -/
def beBytes : Nat → Nat → List Byte
  | 0, _ => []
  | width + 1, n => byte (n / 256 ^ width) :: beBytes width n

/-- A lock time in a frame: the day number in two bytes, then the second of day times 8 plus the weekday in three (R182). -/
def lockTimeBytes (t : LockTime) : List Byte := be16 t.day ++ be24 (t.second * 8 + t.weekday)

/-! ### The check values -/

/-- One shift of the frame check's register (R182: generator x¹⁶ + x¹² + x⁵ + 1, most significant bit first). -/
def check16Shift (r : Check16) : Check16 := if r.msb then (r <<< 1) ^^^ 0x1021#16 else r <<< 1

def check16Byte (r : Check16) (b : Byte) : Check16 := check16Shift^[8] (r ^^^ (b.setWidth 16 <<< 8))

/-- The frame check over a list of bytes (R182): all ones at first, not inverted. -/
def check16 (bs : List Byte) : Check16 := bs.foldl check16Byte 0xFFFF#16

/-- One shift of the block check's register (R203: generator 04C11DB7, most significant bit first). -/
def check32Shift (r : Check32) : Check32 := if r.msb then (r <<< 1) ^^^ 0x04C11DB7#32 else r <<< 1

def check32Byte (r : Check32) (b : Byte) : Check32 := check32Shift^[8] (r ^^^ (b.setWidth 32 <<< 24))

/-- The check of the configuration block (R203): all ones at first, inverted at the end. -/
def check32 (bs : List Byte) : Check32 := ~~~(bs.foldl check32Byte 0xFFFFFFFF#32)

/-! ### The frame envelope -/

/-- The start value of a frame (R182). -/
def startByte : Byte := 0xC3#8

/-- A whole frame: start, length, kind code, tag, contents, check (R182). The length byte of a body of more than 250 bytes, of which
R182 does not say how it is sent, is the low byte of its length (DESIGN CHOICE, log 64). -/
def frameBytes (kind tag : Byte) (contents : List Byte) : List Byte :=
  let body := byte (contents.length + 2) :: kind :: tag :: contents
  startByte :: body ++ be16 (check16 body).toNat

/-- The kind code, tag and contents of a valid frame (R183): its length lies in 2 to 250, it is whole, and its check
agrees. Nothing for any other bytes. -/
def readFrame (bs : List Byte) : Option (Byte × Byte × List Byte) :=
  match bs with
  | start :: len :: kind :: tag :: rest =>
    let n := len.toNat - 2
    if start = startByte ∧ 2 ≤ len.toNat ∧ len.toNat ≤ 250 ∧ rest.length = n + 2 ∧
        rest.drop n = be16 (check16 (len :: kind :: tag :: rest.take n)).toNat then
      some (kind, tag, rest.take n)
    else none
  | _ => none

/-- What a receiver finds first in bytes (R183): nothing, an attempt that is still short of its length and check, an attempt that
is no valid frame, or a valid frame; with the bytes among which it searches on. -/
inductive Found where
  | nothing
  | short (attempt : List Byte)
  | bad (rest : List Byte)
  | frame (kind tag : Byte) (contents : List Byte) (rest : List Byte)
  deriving DecidableEq, Repr

/-- Search bytes for the start value, take the next byte as the length, and collect that many body bytes and the two check
bytes (R183). -/
def lookFor (bs : List Byte) : Found :=
  match bs.dropWhile (· ≠ startByte) with
  | start :: len :: body =>
    if body.length < len.toNat + 2 then .short (start :: len :: body)
    else
      match readFrame (start :: len :: body.take (len.toNat + 2)) with
      | some (kind, tag, contents) => .frame kind tag contents (body.drop (len.toNat + 2))
      | none => .bad (len :: body)
  | start :: [] => .short [start]
  | [] => .nothing

/-- A valid frame as the receiver hands it on; `left` bytes follow its last check byte. -/
structure Heard where
  kind : Byte
  tag : Byte
  contents : List Byte
  left : Nat
  deriving DecidableEq, Repr

/-- The receiver's search through bytes (R183): the valid frames in their order, and the attempt that waits for more bytes. After
an invalid attempt it searches again from the byte that follows the start byte; where the bytes end at a gap of more than 20 ms,
an attempt that is short is discarded too. The first argument bounds the steps. -/
def search (gap : Bool) : Nat → List Byte → List Heard × List Byte
  | 0, _ => ([], [])
  | n + 1, bs =>
    match lookFor bs with
    | .nothing => ([], [])
    | .short attempt => if gap then search gap n attempt.tail else ([], attempt)
    | .bad rest => search gap n rest
    | .frame kind tag contents rest =>
      let r := search gap n rest
      (⟨kind, tag, contents, rest.length⟩ :: r.1, r.2)

/-- The longest time in milliseconds between two bytes of a frame (R183). -/
def byteGapLimit : Nat := 20

/-- The bytes of an attempt came one after the other, each within 20 ms of the byte before it, and the attempt is discarded with its
last byte, or once a gap of more than 20 ms follows it (R183). -/
def arrivedInTime (gap : Bool) (bs : List ArrivedByte) : Bool :=
  ((bs.zip bs.tail).all fun x => x.2.age ≤ x.1.age && x.1.age ≤ x.2.age + byteGapLimit) &&
    (bs.getLast?.map fun b => if gap then decide (byteGapLimit < b.age) else decide (b.age = 0)).getD true

/-- How many milliseconds ago the last check byte of a frame came that was found among the bytes (R183). -/
def Heard.age (h : Heard) (bs : List ArrivedByte) : Nat := ((bs.reverse[h.left]?).map (·.age)).getD 0

/-- What the receiver makes of the bytes of a discarded attempt: it searches again behind the discarded start byte (R183). -/
def searchAgain (gap : Bool) (bs : List Byte) : List Heard × List Byte := search gap bs.length bs.tail

/-! ### The converter's answer (R27, R28) -/

/-- The bytes over which the answer's check is formed (R27): the ready code, then the eight readings in the order A1, A2, B1,
B2, U1, U2, L1, L2, two bytes each (DESIGN CHOICE, log 23). -/
def answerBytes (a : ConverterAnswer) : List Byte :=
  a.ready :: Place.all.flatMap fun p => be16 (a.readings.get p).one ++ be16 (a.readings.get p).two

/-- The answer counts (R28): its ready code is the ready value, and its check agrees with the one computed over it. -/
def answerCounts (a : ConverterAnswer) : Bool :=
  a.ready = Config.converterReady && a.check = check16 (answerBytes a)

/-! ### Codes -/

/-- The request codes of the command code table: 1 to 36 but 24 (R186). -/
def isRequestCode (k : Byte) : Bool := 1 ≤ k.toNat && k.toNat ≤ 36 && k.toNat != 24

/-- The kind code of the reply to a frame of the given kind code: the code plus 128 (R182). A code of 128 or more has no
such byte: a free value (log 18). -/
def replyKind (k : Byte) : Byte := if k.toNat < 128 then k + 128#8 else Config.replyKindAbove k

def Result.code : Result → Nat
  | .ok => 0
  | .busyLink => 1
  | .unknownCommand => 2
  | .notPermitted => 3
  | .notHolder => 4
  | .wrongPhase => 5
  | .badValue => 6
  | .condition => 7
  | .unknownVessel => 8
  | .tableFull => 9
  | .duplicate => 10
  | .tooLarge => 11
  | .accountBlocked => 12
  | .noRoom => 13
  | .notAdmissible => 14
  | .noRecordSpace => 15
  | .empty => 16

def Subject.code : Subject → Nat
  | .chamber .A => 1
  | .chamber .B => 2
  | .lock => 3
  | .cross => 4

def NoticeKind.code : NoticeKind → Nat
  | .phaseChanged => 64
  | .stepWait => 65
  | .claimPending => 66
  | .emergencyPreempt => 67
  | .holdEntered => 68
  | .faultRaised => 69
  | .lockedOut => 70
  | .authorityChanged => 71
  | .vesselDeferred => 72
  | .levelQuality => 73
  | .lampFailed => 74
  | .clockSet => 75
  | .tariffSwitched => 76
  | .journalLow => 77
  | .recordPosted => 78
  | .periodClosed => 79
  | .started => 80

/-- Links are coded DESK = 1, CENTRE = 2, TOLL = 3 (R186). -/
def linkCode : Link → Nat
  | .desk => 1
  | .centre => 2
  | .toll => 3

/-- A holder is coded as its link, none as 0 (R186). -/
def holderCode (o : Option Operator) : Nat := (o.map fun o => linkCode o.link).getD 0

/-- Directions are coded UP = 1, DOWN = 2 (R186). -/
def directionCode : Direction → Nat
  | .up => 1
  | .down => 2

def classCode : VesselClass → Nat
  | .pleasure => 1
  | .cargo => 2
  | .tanker => 3
  | .passenger => 4
  | .service => 5
  | .emergency => 6

/-- The chamber, direction and class that a code names; none for any other code (R185, R186). -/
def chamberOf? (n : Nat) : Option Chamber := Chamber.all.find? fun c => (Subject.chamber c).code = n

def directionOf? (n : Nat) : Option Direction := [Direction.up, .down].find? fun d => directionCode d = n

def classOf? (n : Nat) : Option VesselClass :=
  [VesselClass.pleasure, .cargo, .tanker, .passenger, .service, .emergency].find? fun k => classCode k = n

/-! ### Drive frames (R11) -/

/-- The request frame of a transaction: START = 1 with its target (OPEN = 1, CLOSE = 2), STOP = 2, STATUS = 3; the tag is
the drive's address. -/
def driveRequest (address : Nat) : Task → List Byte
  | .start .toOpen => frameBytes 1 (byte address) [1]
  | .start .toClose => frameBytes 1 (byte address) [2]
  | .stop => frameBytes 2 (byte address) []
  | .status => frameBytes 3 (byte address) []

/-- A valid answer to a transaction. -/
inductive DriveAnswer where
  | accept
  | reject
  | status (position : EndPosition) (overload disagreement : Bool)
  deriving DecidableEq, Repr

/-- The end position of a STATUS reply's first content byte. -/
def endPositionOf (b : Byte) : Option EndPosition :=
  match b.toNat with
  | 1 => some .opened
  | 2 => some .closed
  | 3 => some .intermediate
  | _ => none

/-- The answer that a frame gives to a transaction with the drive at the address (R11): its envelope is good, its tag is
the address, its kind code is the request's plus 128, and its contents are those of the kind. -/
def driveAnswerOf (address : Nat) (t : Task) (bs : List Byte) : Option DriveAnswer :=
  match readFrame bs with
  | none => none
  | some (kind, tag, contents) =>
    if tag ≠ byte address then none
    else
      match t, kind.toNat, contents with
      | .start _, 129, [b] => if b = 0 then some .accept else if b = 1 then some .reject else none
      | .stop, 130, [b] => if b = 0 then some .accept else if b = 1 then some .reject else none
      | .status, 131, [p, flags] =>
        if flags.toNat < 4 then
          (endPositionOf p).map fun e => .status e (flags.getLsbD 0) (flags.getLsbD 1)
        else none
      | _, _, _ => none

/-! ### The journal record layout (R175) -/

def boolBit (b : Bool) (place : Nat) : Nat := if b then 2 ^ place else 0

/-- The flags byte: chamber, direction, clock-unset, emergency, cross volume present. -/
def recordFlags (r : ChargeRecord) : Byte :=
  byte (boolBit (r.chamber = .B) 0 + boolBit (r.direction = .down) 1 + boolBit r.clockUnset 2 +
    boolBit r.emergency 3 + boolBit r.crossVolume.isSome 4)

/-- A mark in eight bytes, padded with zero bytes. -/
def markBytes (m : Mark) : List Byte := (m ++ List.replicate 8 0).take 8

def chargeEntryBytes (e : ChargeEntry) : List Byte :=
  markBytes e.mark ++ [byte e.account, byte (classCode e.cls)] ++ be16 e.length ++ be32 e.own ++ be32 e.share

/-- A charge record as PEEK RECORD and TAKE RECORD carry it. -/
def recordBytes (r : ChargeRecord) : List Byte :=
  be16 r.period ++ be32 r.serial ++ [recordFlags r] ++ lockTimeBytes r.formed ++ lockTimeBytes r.finalized ++
  be16 r.version ++ [byte r.band] ++ be16 r.factor ++ be16 r.travel ++ be24 r.volume ++ be32 r.waterCharge ++
  be32 r.unallocated ++ [byte r.entries.length] ++ (r.crossVolume.map be24).getD [] ++
  r.entries.flatMap chargeEntryBytes

end Sys2Proof.Machine
end

