-- ==== Sys2Proof/Machine/ConfigStore.lean ====
section
/-! DEFINITION. Reading and checking the configuration block (R203): its layout, its four checks, its ranges. -/

namespace Sys2Proof.Machine

/-- The byte at an offset. A byte the store does not hold reads as all ones, like a store that does not answer (R203). -/
def blockByte (bs : List Byte) (i : Nat) : Nat := (bs.getD i 0xFF#8).toNat

def blockHalf (bs : List Byte) (i : Nat) : Nat := blockByte bs i * 256 + blockByte bs (i + 1)

/-- A signed two-byte field: sill elevations and channel zeros (R203). -/
def blockSigned (bs : List Byte) (i : Nat) : Int :=
  let n := blockHalf bs i
  if n < 32768 then (n : Int) else (n : Int) - 65536

def readChamber (bs : List Byte) (i : Nat) : ChamberConfig :=
  { usableLength := blockHalf bs i
    clearWidth := blockHalf bs (i + 2)
    planArea := blockHalf bs (i + 4)
    upperSill := blockSigned bs (i + 6)
    lowerSill := blockSigned bs (i + 8)
    levellingLimit := blockHalf bs (i + 10) }

def readChannel (bs : List Byte) (i : Nat) : ChannelConfig :=
  { zero := blockSigned bs i, span := blockHalf bs (i + 2) }

/-- The two channels of a place, from the offset of the first. -/
def readPlace (bs : List Byte) (i : Nat) : PerSensor ChannelConfig := ⟨readChannel bs i, readChannel bs (i + 4)⟩

/-- The fields of a block, at the offsets of R203. -/
def readBlock (bs : List Byte) : ConfigBlock :=
  { format := blockByte bs 0
    chambers := ⟨readChamber bs 1, readChamber bs 13⟩
    sideClearance := blockByte bs 25
    vesselSpacing := blockByte bs 26
    keelClearance := blockHalf bs 27
    equalizeWindow := blockByte bs 29
    agreementTolerance := blockHalf bs 30
    sluiceDeadTime := blockByte bs 32
    gateTravelLimit := blockHalf bs 33
    sluiceTravelLimit := blockHalf bs 35
    crossTravelLimit := blockHalf bs 37
    crossWaitLimit := blockHalf bs 39
    crossExchangeLimit := blockHalf bs 41
    crossMinimumHead := blockHalf bs 43
    crossStopMargin := blockHalf bs 45
    levelLostLimit := blockByte bs 47
    holderSilenceLimit := blockByte bs 48
    priorities := ⟨blockByte bs 49, blockByte bs 50, blockByte bs 51, blockByte bs 52, blockByte bs 53⟩
    channels :=
      { chambers := ⟨readPlace bs 54, readPlace bs 62⟩, pounds := ⟨readPlace bs 70, readPlace bs 78⟩ }
    addresses :=
      { gates := ⟨⟨blockByte bs 86, blockByte bs 88⟩, ⟨blockByte bs 90, blockByte bs 92⟩⟩
        sluices := ⟨⟨blockByte bs 87, blockByte bs 89⟩, ⟨blockByte bs 91, blockByte bs 93⟩⟩
        xv := blockByte bs 94 } }

def natIn (lo hi n : Nat) : Bool := lo ≤ n && n ≤ hi

def intIn (lo hi n : Int) : Bool := lo ≤ n && n ≤ hi

/-- The range checks of one chamber's items, each with its field's name (00, section 1.4). -/
def chamberRanges (which : String) (c : ChamberConfig) : List (String × Bool) :=
  [(which ++ " usable length", natIn 300 3000 c.usableLength),
   (which ++ " clear width", natIn 50 250 c.clearWidth),
   (which ++ " plan area", natIn 100 5000 c.planArea),
   (which ++ " upper sill elevation", intIn (-20000) 20000 c.upperSill),
   (which ++ " lower sill elevation", intIn (-20000) 20000 c.lowerSill),
   (which ++ " levelling limit", natIn 60 3600 c.levellingLimit)]

/-- The range checks of one channel's calibration (R30, R203). -/
def channelRanges (which : String) (c : ChannelConfig) : List (String × Bool) :=
  [(which ++ " zero", intIn (-20000) 20000 c.zero), (which ++ " span", natIn 1000 40000 c.span)]

/-- Every range check of a block, in the block's order. -/
def blockRanges (b : ConfigBlock) : List (String × Bool) :=
  chamberRanges "chamber A" b.chambers.a ++ chamberRanges "chamber B" b.chambers.b ++
  [("side clearance", natIn 0 20 b.sideClearance),
   ("vessel spacing", natIn 0 100 b.vesselSpacing),
   ("keel clearance", natIn 0 1500 b.keelClearance),
   ("equalize window", natIn 10 200 b.equalizeWindow),
   ("sensor agreement tolerance", natIn 10 500 b.agreementTolerance),
   ("sluice dead time", natIn 2 60 b.sluiceDeadTime),
   ("gate travel limit", natIn 30 600 b.gateTravelLimit),
   ("sluice travel limit", natIn 10 300 b.sluiceTravelLimit),
   ("cross valve travel limit", natIn 10 300 b.crossTravelLimit),
   ("cross wait limit", natIn 0 600 b.crossWaitLimit),
   ("cross exchange limit", natIn 60 1800 b.crossExchangeLimit),
   ("cross minimum head", natIn 100 5000 b.crossMinimumHead),
   ("cross stop margin", natIn 50 1000 b.crossStopMargin),
   ("level-lost limit", natIn 5 120 b.levelLostLimit),
   ("holder silence limit", natIn 5 120 b.holderSilenceLimit),
   ("priority of PLEASURE", natIn 0 7 b.priorities.pleasure),
   ("priority of CARGO", natIn 0 7 b.priorities.cargo),
   ("priority of TANKER", natIn 0 7 b.priorities.tanker),
   ("priority of PASSENGER", natIn 0 7 b.priorities.passenger),
   ("priority of SERVICE", natIn 0 7 b.priorities.service)] ++
  channelRanges "A1" b.channels.chambers.a.one ++ channelRanges "A2" b.channels.chambers.a.two ++
  channelRanges "B1" b.channels.chambers.b.one ++ channelRanges "B2" b.channels.chambers.b.two ++
  channelRanges "U1" b.channels.pounds.upper.one ++ channelRanges "U2" b.channels.pounds.upper.two ++
  channelRanges "L1" b.channels.pounds.lower.one ++ channelRanges "L2" b.channels.pounds.lower.two ++
  [("address of A-UG", natIn 1 9 b.addresses.gates.a.upper), ("address of A-US", natIn 1 9 b.addresses.sluices.a.upper),
   ("address of A-LG", natIn 1 9 b.addresses.gates.a.lower), ("address of A-LS", natIn 1 9 b.addresses.sluices.a.lower),
   ("address of B-UG", natIn 1 9 b.addresses.gates.b.upper), ("address of B-US", natIn 1 9 b.addresses.sluices.b.upper),
   ("address of B-LG", natIn 1 9 b.addresses.gates.b.lower), ("address of B-LS", natIn 1 9 b.addresses.sluices.b.lower),
   ("address of XV", natIn 1 9 b.addresses.xv)]

/-- The nine addresses in the order of the devices. -/
def addressList (b : ConfigBlock) : List Nat := Device.all.map b.addresses.get

/-- Checks 1, 3 and 4 of R203 on a block's fields: the first that fails, where `checkAgrees` tells whether check 2 passes
at its place between 1 and 3. RANGE names the first field in the block's order that is out of range (DESIGN CHOICE, log 57). -/
def blockFault (checkAgrees : Bool) (b : ConfigBlock) : Option ConfigCause :=
  if b.format ≠ 1 then some .format
  else if !checkAgrees then some .check
  else
    match (blockRanges b).find? (fun r => !r.2) with
    | some r => some (.range r.1)
    | none => if (addressList b).Nodup then none else some .address

/-- Check 2 of R203: the stored CRC-32 agrees with the one computed over the other 95 bytes. -/
def storedCheckAgrees (bs : List Byte) : Bool := (bs.drop 95).take 4 == be32 (check32 (bs.take 95)).toNat

/-- The first check of R203 that a stored block fails. -/
def storedFault (bs : List Byte) : Option ConfigCause := blockFault (storedCheckAgrees bs) (readBlock bs)

/-- The block that LOAD CONFIGURATION writes: the contents with their CRC-32 (R206). -/
def withCheck (contents : List Byte) : List Byte := contents ++ be32 (check32 contents).toNat

end Sys2Proof.Machine
end

