-- ==== Sys2Proof/Machine/Ops.lean ====
section
/-! DEFINITION. The named operations over the state: reading and rewriting one block's record, the present time and the
configuration, producing a notice, and the operations of a link port (R184, R197). -/

namespace Sys2Proof.Machine

/-! ### Fixed quantities (00, section 1.4), in milliseconds where they are times -/

def driveAcceptLimit : Nat := 300
def levelScanPeriod : Nat := 250
def censusWait : Nat := 100
def lampSamplePeriod : Nat := 100
def inputSamplePeriod : Nat := 20
def holdSamplePeriod : Nat := 1
def vesselsPerLockage : Nat := 10
def vesselTableSize : Nat := 48
def accountTableSize : Nat := 256
def journalSize : Nat := 64
def planStackDepth : Nat := 2
def periodTotalBound : Nat := 999999999999
def periodCountBound : Nat := 65535

/-- A configured number of seconds in milliseconds. -/
def seconds (n : Nat) : Nat := n * 1000

/-! ### Reading the state -/

/-- The configuration block image. While it is empty nothing that reads it can act (R109, R46); the fields then read as
those of an all-zero block (log 26). -/
def State.cfg (s : State) : ConfigBlock := s.start.image.getD (readBlock (List.replicate 99 0))

def State.configValid (s : State) : Bool := s.start.config = .valid

/-- The part is held (R201, R206). -/
def State.isHeld (s : State) : Bool := s.start.hold.line || s.start.hold.power || s.start.hold.reconfigure

/-- A 20 ms sample of the inputs falls now, and it is at least the third since the start and the third after a moment (R4; log 9): the
filtered state of an input that last changed at that moment may change. -/
def State.thirdSample (s : State) (turned : Nat) : Bool :=
  (s.now - s.samplesFrom) % inputSamplePeriod = 0 && s.samplesFrom + 3 * inputSamplePeriod ≤ s.now &&
    turned + 2 * inputSamplePeriod < s.now

def State.lockTime (s : State) : LockTime := s.charge.clock.time

def State.dev (s : State) (d : Device) : DeviceRecord := s.drive.devices.get d

def State.seq (s : State) (c : Chamber) : Sequencer := s.seqs.get c

def State.phase (s : State) (c : Chamber) : Phase := (s.seq c).phase

def State.holder (s : State) (c : Chamber) : Option Operator := (s.auth.get c).holder

def State.port (s : State) (l : Link) : LinkPort := s.links.get l

def State.direction? (s : State) (c : Chamber) : Option Direction := (s.seq c).lockage.map (·.direction)

def State.account (s : State) (n : Nat) : Account := s.acct.accounts.getD n .initial

/-! ### Rewriting one record -/

def State.setDev (s : State) (d : Device) (r : DeviceRecord) : State :=
  { s with drive := { s.drive with devices := s.drive.devices.set d r } }

def State.modSeq (s : State) (c : Chamber) (g : Sequencer → Sequencer) : State :=
  { s with seqs := s.seqs.set c (g (s.seqs.get c)) }

/-- Rewrite the chamber's lockage record, when it has one. -/
def State.modLockage (s : State) (c : Chamber) (g : LockageRecord → LockageRecord) : State :=
  s.modSeq c fun q => { q with lockage := q.lockage.map g }

def State.setAuth (s : State) (c : Chamber) (a : Authority) : State := { s with auth := s.auth.set c a }

def State.modPort (s : State) (l : Link) (g : LinkPort → LinkPort) : State :=
  { s with links := s.links.set l (g (s.links.get l)) }

def State.setClaim (s : State) (c : Chamber) (k : Option CrossClaim) : State :=
  { s with cross := { s.cross with claims := s.cross.claims.set c k } }

def State.modTraffic (s : State) (g : TrafficUnit → TrafficUnit) : State := { s with traffic := g s.traffic }

def State.modAcct (s : State) (g : AccountingUnit → AccountingUnit) : State := { s with acct := g s.acct }

def State.modEvent (s : State) (g : Event → Event) : State := { s with event := g s.event }

/-! ### The event in progress -/

/-- Take up an event `dt` milliseconds after the one before it: the present time, and which devices are FAULTED before the
event (R96). -/
def State.beginEvent (s : State) (dt : Nat) : State :=
  { s with
    now := s.now + dt
    event := { Event.blank with faultedBefore := s.drive.devices.map fun r => decide (r.position = .faulted) } }

/-- Produce a notice in the present event (R197). -/
def State.produce (s : State) (p : Produced) : State :=
  s.modEvent fun e => { e with produced := e.produced ++ [p] }

/-- Hand a fault report on (R3, R87); it is taken within the event (log 6). -/
def State.report (s : State) (r : Report) : State :=
  s.modEvent fun e => { e with reports := e.reports ++ [r] }

/-- An event that finds nothing to act on leaves everything but the present time as it was (log 5). -/
def State.rest (s : State) : State := { s with event := .blank }

/-! ### Notices: routing, joining, sending (R197, R198) -/

/-- The link of a chamber's HOLDER class: the holder's, or the desk's without a holder (R198), as the authority state stands
at the end of the event. -/
def State.holderLink (s : State) (c : Chamber) : Link :=
  match s.holder c with
  | some o => o.link
  | none => .desk

/-- The four routing classes (R198). -/
inductive Routing where
  | holder
  | operators
  | toll
  | all
  deriving DecidableEq, Repr

def NoticeKind.routing : NoticeKind → Routing
  | .phaseChanged | .stepWait | .claimPending | .emergencyPreempt => .holder
  | .holdEntered | .faultRaised | .lockedOut | .authorityChanged | .vesselDeferred | .levelQuality
  | .lampFailed => .operators
  | .clockSet | .tariffSwitched | .journalLow | .started => .all
  | .recordPosted | .periodClosed => .toll

/-- Whether a notice goes to a link (R198). A notice of the HOLDER class has a chamber as its subject. -/
def State.routed (s : State) (n : Notice) (l : Link) : Bool :=
  match n.kind.routing with
  | .holder =>
    match n.subject with
    | .chamber c => l = s.holderLink c
    | _ => false
  | .operators => l = .desk || l = .centre
  | .toll => l = .toll
  | .all => true

/-- Two notices of one kind and subject (R197). -/
def Notice.samePair (m n : Notice) : Bool := m.kind = n.kind && m.subject = n.subject

/-- The order in which notices of one event join: kind code, then subject code (R197). -/
def Notice.key (n : Notice) : Nat := n.kind.code * 8 + n.subject.code

/-- One event's notices in joining order; of one kind and subject the later produced takes the place (R197). -/
def joinOrder (n : Notice) : List Notice → List Notice
  | [] => [n]
  | m :: ms =>
    if n.samePair m then n :: ms
    else if n.key < m.key then n :: m :: ms
    else m :: joinOrder n ms

/-- A notice joins a queue: one of the same kind and subject is removed, and it is appended (R197). -/
def joinQueue (q : List Notice) (n : Notice) : List Notice := q.filter (fun m => !(m.samePair n)) ++ [n]

/-- The notices of one event join a link's queue. -/
def LinkPort.join (p : LinkPort) (ns : List Notice) : LinkPort := { p with queue := ns.foldl joinQueue p.queue }

/-- The transmitter, when it is free, begins the reply slot's frame, else the busy slot's, else the notice at the head of
the queue, stamped with the sequence number (R184, R197). -/
def LinkPort.transmit (p : LinkPort) : LinkPort :=
  match p.sending with
  | some _ => p
  | none =>
    match p.reply with
    | some _ => { p with sending := some .reply }
    | none =>
      match p.busy with
      | some _ => { p with sending := some .busy }
      | none =>
        match p.queue with
        | [] => p
        | n :: rest =>
          { p with sending := some (.notice p.sequence n), queue := rest, sequence := p.sequence + 1 }

/-- The last byte of the frame being sent is out: its slot empties (R184). -/
def LinkPort.sent (p : LinkPort) : LinkPort :=
  match p.sending with
  | some .reply => { p with reply := none, sending := none }
  | some .busy => { p with busy := none, sending := none }
  | some (.notice _ _) => { p with sending := none }
  | none => p

/-- A valid frame has arrived: the last-frame time, and an empty receive buffer again (R183). -/
def LinkPort.received (p : LinkPort) (now : Nat) : LinkPort := { p with lastFrame := some now, receive := [] }

/-! ### Hold sets -/

def HoldSet.has (h : HoldSet) : HoldReason → Bool
  | .commanded => h.commanded
  | .seized => h.seized
  | .noHolder => h.noHolder
  | .sill => h.sill
  | .signal => h.signal
  | .fault => h.fault

def HoldSet.put (h : HoldSet) (r : HoldReason) (b : Bool) : HoldSet :=
  match r with
  | .commanded => { h with commanded := b }
  | .seized => { h with seized := b }
  | .noHolder => { h with noHolder := b }
  | .sill => { h with sill := b }
  | .signal => { h with signal := b }
  | .fault => { h with fault := b }

/-- Every reason in the set is COMMANDED or SEIZED, or the set is empty (R67). -/
def HoldSet.resumable (h : HoldSet) : Bool := !h.noHolder && !h.sill && !h.signal && !h.fault

end Sys2Proof.Machine
end

