-- ==== Sys2Proof/Machine/Flags.lean ====
section
/-! DEFINITION. The conditions the rules name and the blocks read: at rest, moving, confirmed CLOSED, equalized, usable,
lost age, party, plan window, red-dark, free entries. -/

namespace Sys2Proof.Machine

/-! ### Devices (R1, R2) -/

/-- At rest (R1). -/
def DeviceRecord.atRest (r : DeviceRecord) : Bool :=
  r.outstanding = none && r.queued = none && r.onLine = none && !r.awaitingDone

/-- Moving (R1). -/
def DeviceRecord.moving (r : DeviceRecord) : Bool := r.position = .opening || r.position = .closing

/-- The queue entry is a START with the target. -/
def DeviceRecord.queuedStart (r : DeviceRecord) (t : Target) : Bool := (r.queued.map (·.task)) = some (.start t)

/-- The queue entry is a START. -/
def DeviceRecord.startQueued (r : DeviceRecord) : Bool := r.queuedStart .toOpen || r.queuedStart .toClose

/-- A START is on the line. -/
def DeviceRecord.startOnLine (r : DeviceRecord) : Bool :=
  r.onLine = some (.start .toOpen) || r.onLine = some (.start .toClose)

/-- The outstanding command is OPEN or CLOSE. -/
def DeviceRecord.movementOutstanding (r : DeviceRecord) : Bool :=
  r.outstanding = some (.move .toOpen) || r.outstanding = some (.move .toClose)

/-- Confirmed CLOSED (R2). -/
def State.confirmedClosed (s : State) (d : Device) : Bool :=
  (s.dev d).reportedEnd = some .closed && s.drive.limits.get d = .active

/-- A device has reached a target (R44); the same condition completes a START request at once (R6). -/
def State.reached (s : State) (d : Device) : Target → Bool
  | .toClose => s.confirmedClosed d
  | .toOpen => (s.dev d).position = .opened

/-- The device's chamber is barred (R25); XV is barred with neither. -/
def State.isBarred (s : State) (d : Device) : Bool :=
  match d.chamber? with
  | some c => s.drive.barred.get c
  | none => false

/-- The travel limit of a device, in milliseconds (R1). -/
def State.travelLimit (s : State) : Device → Nat
  | .gate _ _ => seconds s.cfg.gateTravelLimit
  | .sluice _ _ => seconds s.cfg.sluiceTravelLimit
  | .xv => seconds s.cfg.crossTravelLimit

/-- A device of the chamber at position OPENING or CLOSING (R190). -/
def State.chamberMoving (s : State) (c : Chamber) : Bool := c.devices.any fun d => (s.dev d).moving

/-- Every gate and sluice of the chamber at rest (R48). -/
def State.chamberAtRest (s : State) (c : Chamber) : Bool := c.devices.all fun d => (s.dev d).atRest

/-- A sill beam counts as broken unless it is ACTIVE (R4). -/
def State.beamBroken (s : State) (c : Chamber) (e : End) : Bool := (s.drive.beams.get c).get e ≠ .active

/-! ### Levels (R31, R32, R35) -/

/-- The value of a pair while it is usable (R31). -/
def PairState.value? : PairState → Option Int
  | .good v => some v
  | .single v => some v
  | .disagree => none
  | .invalid => none

def PairState.usable (p : PairState) : Bool := p.value?.isSome

/-- The current value of a place (section 2.7). -/
def State.level? (s : State) (p : Place) : Option Int := (s.levels.pairs.get p).state.value?

/-- The last valid value of a place, which level marks take (R40). -/
def State.lastLevel? (s : State) (p : Place) : Option Int := (s.levels.pairs.get p).last.map (·.value)

/-- The lost age of a pair at a moment, in milliseconds (R32). -/
def LevelScanner.lostAgeAt (u : LevelScanner) (moment : Nat) (p : Place) : Option Nat :=
  let r := u.pairs.get p
  if r.state.usable then some 0
  else
    match r.last with
    | some l => some (moment - l.time)
    | none => u.firstScan.map fun t => moment - t

/-- The lost age of a pair at the present time (R32, R60). -/
def State.lostAge? (s : State) (p : Place) : Option Nat := s.levels.lostAgeAt s.now p

/-- The chamber is equalized with the pound at an end (R35). -/
def State.equalized (s : State) (c : Chamber) (e : End) : Bool := (s.levels.counters.get c).get e = 3

/-! ### The plan window (R70) -/

/-- The plan window of a chamber is open (R70). -/
def Sequencer.planWindow (q : Sequencer) : Bool :=
  q.phase.inPlanWindow ||
    ((q.phase = .hold || q.phase = .safing) && (q.resume.map Phase.inPlanWindow).getD false)

/-! ### Cross arbiter (R74) -/

def Grant.names (g : Grant) (c : Chamber) : Bool := g.drain = c || g.fill = c

/-- The chamber is named in the cross grant. -/
def State.granted (s : State) (c : Chamber) : Bool := (s.cross.grant.map (·.names c)).getD false

/-- The chamber is a party of the arbiter (R74). -/
def State.isParty (s : State) (c : Chamber) : Bool := s.phase c = .crossing || s.granted c

def State.bothParties (s : State) : Bool := s.isParty .A && s.isParty .B

/-! ### Signals (R140, R146) -/

/-- Both reds of the head are latched as failed (R146). -/
def HeadRecord.redDark (h : HeadRecord) : Bool := h.lamps.red1.failed && h.lamps.red2.failed

def State.redDark (s : State) (h : Head) : Bool := (PerHead.get s.heads h).redDark

/-- The head that governs an opening phase: the entry-end outer head, the exit-end inner head (R146). -/
def governingHead (c : Chamber) (d : Direction) : Phase → Option Head
  | .entryOpening => some ⟨c, d.entryEnd, .outer⟩
  | .exitOpening => some ⟨c, d.exitEnd, .inner⟩
  | _ => none

/-! ### Journal (R171) -/

/-- The free count: 64 less the reservations less the finalized records (R171). -/
def AccountingUnit.free (a : AccountingUnit) : Nat := journalSize - a.reservations - a.journal.length

/-! ### Vessels (R106, R118) -/

/-- The class priority (R106). -/
def State.priority (s : State) : VesselClass → Nat
  | .pleasure => s.cfg.priorities.pleasure
  | .cargo => s.cfg.priorities.cargo
  | .tanker => s.cfg.priorities.tanker
  | .passenger => s.cfg.priorities.passenger
  | .service => s.cfg.priorities.service
  | .emergency => 7

/-- The vessel with the handle. -/
def State.vessel? (s : State) (h : Nat) : Option Vessel := s.traffic.vessels.find? fun v => v.handle = h

end Sys2Proof.Machine
end

