-- ==== Sys2Proof/Machine/Drive.lean ====
section
/-! DEFINITION. The drive link controller (01): requests (R6 to R8), the bar (R25), faulting a device (R3), the arbiter of
the line with the open conditions (R10, R17 to R21), and the effect of every answer (R12, R13, R15) and of DONE (R14). -/

namespace Sys2Proof.Machine

/-! ### Rewriting a device record -/

/-- Stamp the last-closed time of a device that has just become confirmed CLOSED (R2); the cross arbiter is told when it
is XV (R80). -/
def State.stampClosed (s : State) (d : Device) (was : Bool) : State :=
  if s.confirmedClosed d && !was then
    let s' := s.setDev d { s.dev d with lastClosed := some s.now }
    if d = .xv then s'.modEvent fun e => { e with crossClosed := true } else s'
  else s

/-- Rewrite a device record, watching for confirmed CLOSED (R2). -/
def State.updDev (s : State) (d : Device) (g : DeviceRecord → DeviceRecord) : State :=
  (s.setDev d (g (s.dev d))).stampClosed d (s.confirmedClosed d)

/-- Write the filtered state of a closed-limit input, watching for confirmed CLOSED (R2, R4). -/
def State.setLimit (s : State) (d : Device) (v : Filtered) : State :=
  ({ s with
    drive :=
      { s.drive with
        limits := s.drive.limits.set d v
        turned := { s.drive.turned with limits := s.drive.turned.limits.set d s.now } } } : State).stampClosed d (s.confirmedClosed d)

/-- A device becomes FAULTED (R3): the report goes to its owner, and XV's fault is notified whoever takes it (R91). A
device that is FAULTED already takes no new fault. -/
def State.faultDevice (s : State) (d : Device) (k : FaultKind) : State :=
  if (s.dev d).position = .faulted then s
  else
    let s1 := s.updDev d fun r => { r with position := .faulted, faultKind := some k }
    let s2 := s1.report (.device d k s.lockTime)
    if d = .xv then s2.produce (.crossFaulted ⟨k, some .xv, s.lockTime⟩) else s2

/-! ### Requests -/

/-- A START request (R6). -/
def State.startRequest (s : State) (d : Device) (t : Target) : State :=
  let r := s.dev d
  if r.position = .faulted || s.isBarred d then s
  else if r.atRest && s.reached d t then s
  else if r.atRest || r.startQueued then
    s.updDev d fun r => { r with outstanding := some (.move t), queued := some ⟨.start t, s.now⟩ }
  else s.updDev d fun r => { r with nextStart := some t }

/-- Whether a STOP request places a STOP entry (R7). -/
def DeviceRecord.stoppable (r : DeviceRecord) : Bool :=
  r.startQueued || (r.queued = none && (r.startOnLine || (r.awaitingDone && r.movementOutstanding)))

/-- A STOP request (R7): in every case in which it is taken the next start is cleared. -/
def State.stopRequest (s : State) (d : Device) : State :=
  if s.isBarred d then s
  else if (s.dev d).stoppable then
    s.updDev d fun r => { r with outstanding := some .stop, queued := some ⟨.stop, s.now⟩, nextStart := none }
  else s.updDev d fun r => { r with nextStart := none }

/-- A status query (R8). -/
def State.statusQuery (s : State) (d : Device) : State :=
  let r := s.dev d
  let entry : Option QueueEntry := some ⟨.status, s.now⟩
  if r.startQueued then
    s.updDev d fun r => { r with queryFlag := true, outstanding := none, nextStart := none, queued := entry }
  else if r.atRest || (r.awaitingDone && r.queued = none && r.onLine = none) then
    s.updDev d fun r => { r with queryFlag := true, queued := entry }
  else s.updDev d fun r => { r with queryFlag := true }

/-- A transaction answer that leaves the device at rest with its query flag still set brings a STATUS entry (R8). -/
def State.queryTail (s : State) (d : Device) : State :=
  if (s.dev d).atRest && (s.dev d).queryFlag then s.updDev d fun r => { r with queued := some ⟨.status, s.now⟩ } else s

/-- STOP requests for a chamber's two gates and two sluices (R65). -/
def State.stopChamber (s : State) (c : Chamber) : State := c.devices.foldl State.stopRequest s

/-- Step 1 of the bar order for one device (R25). -/
def DeviceRecord.withdrawn (r : DeviceRecord) : DeviceRecord :=
  if r.startQueued then { r with queued := none, outstanding := none, nextStart := none } else { r with nextStart := none }

/-- Step 2 of the bar order for one device (R25). -/
def State.stopMoving (s : State) (d : Device) : State :=
  let r := s.dev d
  if r.startOnLine || (r.awaitingDone && r.movementOutstanding) then s.stopRequest d else s

/-- The bar order (R25). -/
def State.barOrder (s : State) (c : Chamber) : State :=
  let s1 := c.devices.foldl (fun s d => s.updDev d DeviceRecord.withdrawn) s
  let s2 := c.devices.foldl State.stopMoving s1
  { s2 with drive := { s2.drive with barred := s2.drive.barred.set c true } }

/-! ### The line and its arbiter -/

/-- A device at the opposite end lets an end open (R17). -/
def State.endSeparated (s : State) (d : Device) : Bool :=
  let r := s.dev d
  s.confirmedClosed d && !r.queuedStart .toOpen && r.onLine ≠ some (.start .toOpen) && r.nextStart ≠ some .toOpen &&
    r.position ≠ .opening

/-- The end separation condition for the devices of a chamber at an end (R17). -/
def State.oppositeClosed (s : State) (c : Chamber) (e : End) : Bool :=
  s.endSeparated (.gate c e.other) && s.endSeparated (.sluice c e.other)

/-- The moment from which the dead time allows a sluice to open (R20). -/
def State.deadTimeEnd? (s : State) (c : Chamber) (e : End) : Option Nat :=
  let times := [(s.dev (.sluice c e.other)).lastClosed, (s.dev .xv).lastClosed].filterMap id
  match times with
  | [] => none
  | t :: ts => some (ts.foldl max t + seconds s.cfg.sluiceDeadTime)

/-- The dead time has passed (R20). -/
def State.deadTimePassed (s : State) (c : Chamber) (e : End) : Bool :=
  match s.deadTimeEnd? c e with
  | some t => t ≤ s.now
  | none => true

/-- Every gate and sluice of both chambers is confirmed CLOSED (R19). -/
def State.allClosed (s : State) : Bool :=
  Chamber.all.all fun c => c.devices.all fun d => s.confirmedClosed d

/-- The conditions of section 1.6 on a START of a device (R17 to R21). -/
def State.startAllowed (s : State) : Device → Target → Bool
  | .gate c e, .toOpen => s.oppositeClosed c e && 3 ≤ (s.levels.counters.get c).get e
  | .gate c e, .toClose => !s.beamBroken c e
  | .sluice c e, .toOpen => s.oppositeClosed c e && s.confirmedClosed .xv && s.deadTimePassed c e
  | .sluice _ _, .toClose => true
  | .xv, .toOpen =>
    s.phase .A = .crossing && s.phase .B = .crossing && s.granted .A && s.granted .B && s.allClosed
  | .xv, .toClose => true

/-- A queued START of the device is eligible (R10). -/
def State.eligible (s : State) (d : Device) : Bool :=
  match (s.dev d).queued with
  | some ⟨.start t, _⟩ => !s.isBarred d && s.startAllowed d t
  | _ => false

/-- The device's entry is of the given kind. -/
def State.queuedIs (s : State) (k : Task) (d : Device) : Bool := ((s.dev d).queued.map (·.task)) = some k

/-- The stamp of a device's entry. -/
def State.stampOf (s : State) (d : Device) : Nat := ((s.dev d).queued.map (·.stamp)).getD 0

/-- The device with the oldest entry among those chosen from; of equal stamps the first in the order of R10. -/
def State.oldest (s : State) (ds : List Device) : Option Device :=
  ds.foldl (fun best d => match best with
    | none => some d
    | some b => if s.stampOf d < s.stampOf b then some d else some b) none

/-- The arbiter's choice (R10): the oldest STOP, else the oldest STATUS, else the oldest eligible START. -/
def State.nextOnLine (s : State) : Option Device :=
  ((s.oldest (Device.all.filter (s.queuedIs .stop))).or
    (s.oldest (Device.all.filter (s.queuedIs .status)))).or
    (s.oldest (Device.all.filter s.eligible))

/-- The arbiter examines its queue (R10): while the line is free the chosen entry goes on it. Nothing is dispatched unless
the configuration is VALID (R26), nor while the part is held. -/
def State.dispatch (s : State) : State :=
  if s.configValid && !s.isHeld && s.drive.sentAt = none then
    match s.nextOnLine with
    | some d =>
      let s1 := s.setDev d { s.dev d with queued := none, onLine := (s.dev d).queued.map (·.task) }
      { s1 with drive := { s1.drive with sentAt := some s.now } }
    | none => s
  else s

/-- The device whose transaction is on the line. -/
def State.lineDevice (s : State) : Option Device := Device.all.find? fun d => (s.dev d).onLine ≠ none

/-- The line is free again (R11). -/
def State.freeLine (s : State) : State := { s with drive := { s.drive with sentAt := none } }

/-- The device of the transaction to which an answer, come from a drive address, belongs (R11): the line is waiting, 300 ms
have not passed, and the address is the addressed drive's. -/
def State.answers? (s : State) (address : Nat) : Option (Device × Task) :=
  match s.drive.sentAt, s.lineDevice with
  | some t, some d =>
    if s.now ≤ t + driveAcceptLimit && address = s.cfg.addresses.get d then (s.dev d).onLine.map fun k => (d, k) else none
  | _, _ => none

/-! ### Answers -/

/-- ACCEPT of a START (R12). A device that has become FAULTED while its START was on the line stays FAULTED (R3, log 12). -/
def State.startAccepted (s : State) (d : Device) (t : Target) : State :=
  s.updDev d fun r =>
    { r with
      onLine := none
      position :=
        if r.position = .faulted then .faulted else match t with | .toOpen => .opening | .toClose => .closing
      reportedEnd := none
      awaitingDone := true
      travelDeadline := some (s.now + s.travelLimit d) }

/-- REJECT of a START (R12). -/
def State.startRejected (s : State) (d : Device) : State :=
  let s1 := s.faultDevice d .driveRefused
  let s2 := s1.updDev d fun r =>
    { r with
      onLine := none
      outstanding := none
      nextStart := none
      queued := if (r.queued.map (·.task)) = some .stop then none else r.queued }
  s2.queryTail d

/-- No valid answer to a START (R12). -/
def State.startUnanswered (s : State) (d : Device) : State :=
  let s1 := s.faultDevice d .noResponse
  let s2 := s1.updDev d fun r =>
    { r with
      onLine := none
      reportedEnd := none
      outstanding := if (r.queued.map (·.task)) = some .stop then some .stop else none }
  s2.queryTail d

/-- ACCEPT of a STOP (R13). -/
def State.stopAccepted (s : State) (d : Device) : State :=
  s.updDev d fun r =>
    { r with
      onLine := none
      awaitingDone := true
      travelDeadline := r.travelDeadline.or (some (s.now + s.travelLimit d)) }

/-- A wrong answer to a STOP, or none (R13). -/
def State.stopFailed (s : State) (d : Device) (k : FaultKind) : State :=
  let s1 := s.faultDevice d k
  let s2 := s1.updDev d fun r =>
    { r with onLine := none, outstanding := if r.awaitingDone then r.outstanding else none }
  s2.queryTail d

/-- A DONE event (R14), taken while the device awaits DONE and none of its transactions is on the line. -/
def State.doneTaken (s : State) (d : Device) : State :=
  s.updDev d fun r =>
    { r with
      awaitingDone := false
      travelDeadline := none
      queued := if (r.queued.map (·.task)) = some .status then r.queued else some ⟨.status, s.now⟩ }

/-- What a STATUS reply makes of a device (R15): a position, or a fault of a kind. -/
inductive Finding where
  | at (p : Position)
  | fault (k : FaultKind)
  deriving DecidableEq, Repr

/-- A reply read against the outstanding target (R15). -/
def targetChecked (t : Target) (e : EndPosition) (flagged limitActive : Bool) : Finding :=
  if flagged then .fault .driveReported
  else
    match t, e with
    | .toOpen, .opened => .at .opened
    | .toClose, .closed => if limitActive then .at .closed else .fault .positionMismatch
    | _, _ => .fault .positionMismatch

/-- A reply read as found (R15). -/
def asFound (e : EndPosition) (flagged limitActive : Bool) : Finding :=
  if flagged then .fault .driveReported
  else
    match e with
    | .intermediate => .at .stopped
    | .opened => .at .opened
    | .closed => if limitActive then .at .closed else .fault .positionMismatch

/-- What a STATUS reply finds, read by the record (R15). -/
def DeviceRecord.finding (r : DeviceRecord) (e : EndPosition) (flagged limitActive : Bool) : Finding :=
  match r.outstanding, r.queryFlag with
  | some (.move t), false => targetChecked t e flagged limitActive
  | _, _ => asFound e flagged limitActive

/-- XV is FAULTED by a CROSS_CONFLICT that the desk has not acknowledged: it stays so whatever the census brings (R101; log 61). -/
def State.keepsConflict (s : State) (d : Device) : Bool := d = .xv && s.drive.conflictKept

/-- A FAULTED device stays FAULTED with its recorded kind at the end of a STATUS: it was not queried (R15), or it keeps its conflict
(R101). -/
def State.staysFaulted (s : State) (d : Device) : Bool :=
  (s.dev d).position = .faulted && (!(s.dev d).queryFlag || s.keepsConflict d)

/-- The device's position after a finding (R15). A FAULTED device without a query stays as it is; a queried one takes the
finding, its kind with it, and raises nothing (R95, log 13). -/
def State.applyFinding (s : State) (d : Device) (f : Finding) : State :=
  let r := s.dev d
  if s.staysFaulted d then s
  else
    match f with
    | .at p => s.updDev d fun r => { r with position := p, faultKind := none }
    | .fault k => if r.position = .faulted then s.updDev d fun r => { r with faultKind := some k } else s.faultDevice d k

/-- The target of a device's next start is taken as a START request (R15). -/
def State.takeNextStart (s : State) (d : Device) : State :=
  match (s.dev d).nextStart with
  | none => s
  | some t =>
    let s1 := s.updDev d fun r => { r with nextStart := none }
    if (s.dev d).position = .faulted then s1 else s1.startRequest d t

/-- A STATUS reply (R15). -/
def State.statusApplied (s : State) (d : Device) (e : EndPosition) (overload disagreement : Bool) : State :=
  let r := s.dev d
  let s1 := s.applyFinding d (r.finding e (overload || disagreement) (s.drive.limits.get d = .active))
  let s2 := s1.updDev d fun q =>
    { q with
      onLine := none
      reportedEnd := some e
      outstanding := none
      queryFlag := false
      awaitingDone := if r.queryFlag then false else q.awaitingDone
      travelDeadline := if r.queryFlag then none else q.travelDeadline }
  s2.takeNextStart d

/-- No valid answer to a STATUS (R15). A queried device that is FAULTED stays so with NO_RESPONSE (R95, log 13). -/
def State.statusUnanswered (s : State) (d : Device) : State :=
  let s1 :=
    if s.staysFaulted d then s
    else if (s.dev d).position = .faulted then s.updDev d fun r => { r with faultKind := some .noResponse }
    else s.faultDevice d .noResponse
  s1.updDev d fun r =>
    { r with
      onLine := none
      reportedEnd := none
      queryFlag := false
      nextStart := none
      outstanding := if r.awaitingDone then r.outstanding else none }

/-- A travel deadline has expired (R16). -/
def State.travelExpired (s : State) (d : Device) : State :=
  let s1 := s.updDev d fun r => { r with travelDeadline := none }
  if (s.dev d).position = .faulted then s1
  else
    let s2 := s1.faultDevice d .travelTimeout
    if (s.dev d).movementOutstanding then s2.stopRequest d else s2

/-- A limit is released (R22): a device at CLOSED with no outstanding command has moved by itself. -/
def State.uncommandedCheck (s : State) (d : Device) : State :=
  if (s.dev d).position = .closed && (s.dev d).outstanding = none then s.faultDevice d .uncommandedMove else s

end Sys2Proof.Machine
end

