-- ==== Sys2Proof/Machine/Accounting.lean ====
section
/-! DEFINITION. The accounting unit (10): additions to accounts (R168), reservations (R172, R173), posting (R174), the period
close (R177) and the lockage serial (R179). -/

namespace Sys2Proof.Machine

/-- An addition to an account (R168); `counted` for the passage of a vessel. -/
def Account.add (a : Account) (amount : Nat) (counted : Bool) (t : LockTime) : Account :=
  { a with
    total := if a.total + amount ≤ periodTotalBound then a.total + amount else periodTotalBound
    saturated := a.saturated || decide (periodTotalBound < a.total + amount)
    count := if counted && a.count < periodCountBound then a.count + 1 else a.count
    lastCharged := some t }

/-- An addition to the account of a number. -/
def AccountingUnit.charge (u : AccountingUnit) (n amount : Nat) (counted : Bool) (t : LockTime) : AccountingUnit :=
  { u with accounts := u.accounts.modify n fun a => a.add amount counted t }

/-- JOURNAL_LOW follows a grant or a posting that leaves 8 entries free or fewer (R176). -/
def State.journalLowCheck (s : State) : State := if s.acct.free ≤ 8 then s.produce .journalLow else s

/-- A reservation request, normal or emergency (R172): the state after the grant, or nothing when it is refused. -/
def State.reserve? (s : State) (emergency : Bool) : Option State :=
  if (if emergency then 1 else 3) ≤ s.acct.free then
    some ((s.modAcct fun u => { u with reservations := u.reservations + 1 }).journalLowCheck)
  else none

/-- A release of one reservation (R173). -/
def AccountingUnit.release (u : AccountingUnit) : AccountingUnit := { u with reservations := u.reservations - 1 }

/-- The total of an entry (R163). -/
def ChargeEntry.total (e : ChargeEntry) : Nat := e.own + e.share

/-- The record total (R163). -/
def ChargeRecord.total (r : ChargeRecord) : Nat := (r.entries.map ChargeEntry.total).sum + r.unallocated

/-- Step 1 of a posting: a reservation becomes a finalized record stamped with the present period (R174). -/
def AccountingUnit.append (u : AccountingUnit) (r : ChargeRecord) : AccountingUnit :=
  { u with reservations := u.reservations - 1, journal := u.journal ++ [{ r with period := u.period }] }

/-- Step 2 of a posting for one entry (R174): exempt entries add nothing. -/
def AccountingUnit.chargeEntry (t : LockTime) (u : AccountingUnit) (e : ChargeEntry) : AccountingUnit :=
  if e.cls.exempt then u else u.charge e.account e.total true t

/-- Steps 1 to 3 of a posting (R174). -/
def AccountingUnit.post (u : AccountingUnit) (r : ChargeRecord) : AccountingUnit :=
  (r.entries.foldl (AccountingUnit.chargeEntry r.finalized) (u.append r)).charge 0 r.unallocated false r.finalized

/-- A posting with its notices (R174, R176). -/
def State.post (s : State) (r : ChargeRecord) : State :=
  ((s.modAcct fun u => u.post r).produce (.recordPosted r.serial r.chamber s.acct.period r.total)).journalLowCheck

/-- The image that a period close writes (R178). -/
def AccountingUnit.imageNow (u : AccountingUnit) (t : LockTime) (clockSet : Bool) : PeriodImage :=
  { period := u.period
    contents := some
      { closeTime := t, clockSet, entries := u.accounts.map fun a => ⟨a.total, a.saturated, a.count⟩ } }

/-- The period number after a close (R177). -/
def nextPeriod (n : Nat) : Nat := if n = 65535 then 1 else n + 1

/-- Steps 1 to 3 of a period close (R177). -/
def AccountingUnit.close (u : AccountingUnit) (t : LockTime) (clockSet : Bool) : AccountingUnit :=
  { u with
    image := u.imageNow t clockSet
    accounts := u.accounts.map fun a => { a with total := 0, saturated := false, count := 0 }
    period := nextPeriod u.period }

/-- The serial after one more is taken (R179). -/
def nextSerial (n : Nat) : Nat := if n = 4294967295 then 1 else n + 1

/-- Set an account's state (R169). -/
def AccountingUnit.setBlocked (u : AccountingUnit) (n : Nat) (b : Bool) : AccountingUnit :=
  { u with accounts := u.accounts.modify n fun a => { a with blocked := b } }

end Sys2Proof.Machine
end

