-- ==== Sys2Proof/Machine/Charges.lean ====
section
/-! DEFINITION. The charge unit (09): the clock's tick (R151), the switch of tariffs (R157), the snapshot (R159) and the
charge computation (R160 to R164), with the cross volume of R85. -/

namespace Sys2Proof

/-- The value of a charged class; an exempt class has none (R155). -/
def PerCharged.get? {α : Type} (p : PerCharged α) : VesselClass → Option α
  | .pleasure => some p.pleasure
  | .cargo => some p.cargo
  | .tanker => some p.tanker
  | .passenger => some p.passenger
  | .service | .emergency => none

/-- The value of a band. -/
def PerBand.get {α : Type} (p : PerBand α) : Nat → α
  | 0 => p.f0
  | 1 => p.f1
  | 2 => p.f2
  | _ => p.f3

/-- One tick of the clock (R151). -/
def LockTime.tick (t : LockTime) : LockTime :=
  if t.second < 86399 then { t with second := t.second + 1 }
  else
    { second := 0
      day := if t.day = 65535 then 0 else t.day + 1
      weekday := if t.weekday = 6 then 0 else t.weekday + 1 }

/-- The hour of week (R154). -/
def LockTime.hourOfWeek (t : LockTime) : Nat := t.weekday * 24 + t.second / 3600

/-- The clock stands at or after an instant (R157): the weekday takes no part. -/
def LockTime.atOrAfter (t : LockTime) (i : Instant) : Bool := i.day < t.day || (i.day = t.day && i.second ≤ t.second)

end Sys2Proof

namespace Sys2Proof.Machine

/-! ### Tariff slots -/

/-- The version of a tariff slot, 0 for an empty one (R155). -/
def versionOf (t : Option Tariff) : Nat := (t.map (·.version)).getD 0

/-- A switch to a tariff (R157). -/
def State.switchTo (s : State) (t : Tariff) : State :=
  let s' : State := { s with charge := { s.charge with current := some t, pending := none } }
  s'.produce (.tariffSwitched t.version (versionOf s.charge.current) s.lockTime)

/-- The switch test of a tick (R157): PENDING holds a dated tariff, the clock is SET, and it stands at or after the
instant. -/
def State.switchTest (s : State) : State :=
  match s.charge.pending with
  | some p => if s.charge.clock.isSet && s.lockTime.atOrAfter p.instant then s.switchTo p.tariff else s
  | none => s

/-! ### The snapshot -/

/-- The snapshot under an empty CURRENT (R155, R159). -/
def Snapshot.empty (clockSet : Bool) : Snapshot :=
  { version := 0, rates := ⟨⟨0, 0⟩, ⟨0, 0⟩, ⟨0, 0⟩, ⟨0, 0⟩⟩, water := 0, band := 0, factor := 0, clockSet }

/-- The band of the present instant under a tariff (R154). -/
def ChargeUnit.band (u : ChargeUnit) (t : Tariff) : Nat :=
  if u.clock.isSet then t.bandMap.getD u.clock.time.hourOfWeek 0 else 0

/-- The snapshot that the charge unit writes (R159). -/
def ChargeUnit.snapshot (u : ChargeUnit) : Snapshot :=
  match u.current with
  | none => .empty u.clock.isSet
  | some t =>
    { version := t.version, rates := t.rates, water := t.water, band := u.band t, factor := t.factors.get (u.band t),
      clockSet := u.clock.isSet }

/-! ### The computation -/

/-- The own-sluice travel (R161). -/
def travelOf (startMark endMark : Option Int) : Nat :=
  match startMark, endMark with
  | some a, some b => min (a - b).natAbs 20000
  | _, _ => 0

/-- The water volume (R161). -/
def volumeOf (planArea travel : Nat) : Nat := planArea * travel / 1000

/-- The water charge (R161). -/
def waterChargeOf (volume rate : Nat) : Nat := volume * rate / 100

/-- The own charge of an entry (R162). -/
def ownCharge (snap : Snapshot) (cls : VesselClass) (length : Nat) : Nat :=
  match snap.rates.get? cls with
  | none => 0
  | some r => ((r.base + (length + 9) / 10 * r.metre) * snap.factor + 50) / 100

/-- The length by which an entry shares the water: none of it for an exempt entry (R163). -/
def sharedLength (cls : VesselClass) (length : Nat) : Nat := if cls.exempt then 0 else length

/-- Give one unit to the first entry that still has the remainder `m`; it is chosen once (R163). -/
def giveOne (m : Nat) : List (Nat × Option Nat) → List (Nat × Option Nat)
  | [] => []
  | e :: es => if e.2 = some m then (e.1 + 1, none) :: es else e :: giveOne m es

/-- Give the leftover units one by one, each to the first entry of the largest remainder not yet chosen (R163). -/
def giveUnits : Nat → List (Nat × Option Nat) → List (Nat × Option Nat)
  | 0, es => es
  | d + 1, es =>
    match (es.filterMap Prod.snd).max? with
    | some m => giveUnits d (giveOne m es)
    | none => es

/-- The shares of the water charge `c` among entries of the shared lengths (R163). -/
def waterShares (c : Nat) (lengths : List Nat) : List Nat :=
  let t := lengths.sum
  if t = 0 then lengths.map fun _ => 0
  else
    let floors := lengths.map fun l => (c * l / t, some (c * l % t))
    (giveUnits (c - (floors.map Prod.fst).sum) floors).map Prod.fst

/-- The unallocated water (R163). -/
def unallocatedWater (c : Nat) (lengths : List Nat) : Nat := if lengths.sum = 0 then c else 0

/-- One entry of the charge record (R164). -/
def chargeEntryOf (snap : Snapshot) (v : Vessel) (share : Nat) : ChargeEntry :=
  { mark := v.mark, account := v.account, cls := v.cls, length := v.length,
    own := ownCharge snap v.cls v.length, share }

/-- The cross volume of a lockage (R85). -/
def crossVolumeOf (planArea : Nat) (c : Chamber) (l : LockageRecord) : Option Nat :=
  match l.crossUsed, l.crossStart, l.crossEnd with
  | true, some a, some b => some (planArea * (b.get c - a.get c).natAbs / 1000)
  | _, _, _ => none

/-- The charge record of a lockage with the vessels of its plan (R160 to R164). -/
def State.chargeRecord (s : State) (c : Chamber) (l : LockageRecord) (vs : List Vessel) : ChargeRecord :=
  let planArea := (s.cfg.chambers.get c).planArea
  let travel := travelOf l.startMark l.endMark
  let volume := volumeOf planArea travel
  let water := waterChargeOf volume l.snapshot.water
  let lengths := vs.map fun v => sharedLength v.cls v.length
  { period := s.acct.period
    serial := l.serial
    chamber := c
    direction := l.direction
    formed := l.startTime
    finalized := s.lockTime
    clockUnset := !l.snapshot.clockSet || !s.charge.clock.isSet
    version := l.snapshot.version
    band := l.snapshot.band
    factor := l.snapshot.factor
    travel
    volume
    waterCharge := water
    crossVolume := crossVolumeOf planArea c l
    unallocated := unallocatedWater water lengths
    emergency := l.emergency
    entries := List.zipWith (chargeEntryOf l.snapshot) vs (waterShares water lengths) }

/-- The vessels of a plan, in plan order. -/
def State.planVessels (s : State) (l : LockageRecord) : List Vessel := l.plan.filterMap fun e => s.vessel? e.handle

/-- The hand-over at the confirmed opening of the exit gate (R57, R160): with a reservation the charges are computed and
posted, and the reservation becomes none. -/
def State.finalize (s : State) (c : Chamber) : State :=
  match (s.seq c).lockage with
  | none => s
  | some l =>
    if l.reservation = .none then s
    else (s.post (s.chargeRecord c l (s.planVessels l))).modLockage c fun l => { l with reservation := .none }

end Sys2Proof.Machine
end

