-- ==== Sys2Proof/Machine/Levels.lean ====
section
/-! DEFINITION. The level scanner (02): channels (R29, R30), pairs (R31, R32), equalization counters (R34), the sill test
(R36, R37) and the scan completion as one event (R27, R28, R33). -/

namespace Sys2Proof

/-- The sill elevation of a chamber at an end. -/
def ChamberConfig.sill (k : ChamberConfig) : End → Int
  | .upper => k.upperSill
  | .lower => k.lowerSill

end Sys2Proof

namespace Sys2Proof.Machine

/-! ### Channels -/

/-- The level of a current under a calibration (R30): rounded half up, then clamped. -/
def levelOf (k : ChannelConfig) (current : Nat) : Int :=
  max (-20000) (min 20000 (k.zero + (2 * (((current : Int) - 4000) * k.span) + 16000) / 32000))

/-- A channel judged on its own reading (R29). -/
def judge (k : ChannelConfig) (current : Nat) : Reading :=
  if current < 3800 then .lost .low
  else if current ≤ 20500 then .valid (levelOf k current)
  else .lost .high

/-- A channel record after a counted answer (R29). -/
def readChannelAt (k : ChannelConfig) (current : Nat) : ChannelRecord := ⟨some current, judge k current⟩

/-- A channel record after an answer that does not count (R28, R29): the current stays. -/
def ChannelRecord.unanswered (r : ChannelRecord) : ChannelRecord := { r with reading := .lost .noAnswer }

/-! ### Pairs -/

/-- The mean of two levels, an exact half rounded to the greater (R31). -/
def meanOf (a b : Int) : Int := (a + b + 1) / 2

/-- Value and quality of a pair (R31). -/
def pairOf (tolerance : Nat) : Reading → Reading → PairState
  | .valid a, .valid b => if (a - b).natAbs ≤ tolerance then .good (meanOf a b) else .disagree
  | .valid a, .lost _ => .single a
  | .lost _, .valid b => .single b
  | .lost _, .lost _ => .invalid

/-- A pair record brought up to date (R31, R32). -/
def PairRecord.update (r : PairRecord) (p : PairState) (now : Nat) : PairRecord :=
  { state := p, last := match p.value? with | some v => some ⟨v, now⟩ | none => r.last }

/-- The quality of a pair, without its value (R31). -/
def PairState.quality : PairState → Nat
  | .good _ => 0
  | .single _ => 1
  | .disagree => 2
  | .invalid => 3

/-! ### Equalization -/

/-- A counter's two pairs match at this scan (R34). -/
def matched (window : Nat) (chamber pound : PairState) : Bool :=
  match chamber.value?, pound.value? with
  | some a, some b => (a - b).natAbs ≤ window
  | _, _ => false

/-- A counter after a scan (R34). -/
def nextCounter (isMatched : Bool) (n : Nat) : Nat := if isMatched then min 3 (n + 1) else 0

/-! ### The scan completion -/

/-- The channel records after a scan (R28, R29). -/
def LevelScanner.scanChannels (u : LevelScanner) (b : ConfigBlock) (a : ConverterAnswer) :
    PerPlace (PerSensor ChannelRecord) :=
  if answerCounts a then
    .of fun p =>
      let k := b.channels.get p
      let i := a.readings.get p
      ⟨readChannelAt k.one i.one, readChannelAt k.two i.two⟩
  else u.channels.map (PerSensor.map ChannelRecord.unanswered)

/-- The whole scanner state after a scan completion (R27). -/
def LevelScanner.scan (u : LevelScanner) (b : ConfigBlock) (now : Nat) (a : ConverterAnswer) : LevelScanner :=
  let channels := u.scanChannels b a
  let pairs : PerPlace PairRecord := .of fun p =>
    (u.pairs.get p).update (pairOf b.agreementTolerance (channels.get p).one.reading (channels.get p).two.reading) now
  { u with
    channels
    pairs
    lastScan := some now
    counters := .of fun c => .of fun e =>
      nextCounter (matched b.equalizeWindow (pairs.get (.chamber c)).state (pairs.get (.pound e)).state)
        ((u.counters.get c).get e)
    exchanging := false }

/-- The quality of a place's pair differs between two scanner states (R33). -/
def qualityChanged (u v : LevelScanner) (p : Place) : Bool :=
  (u.pairs.get p).state.quality ≠ (v.pairs.get p).state.quality

/-- The subjects that a scan completion notifies (R33). -/
def qualitySubjects (u v : LevelScanner) : List Subject :=
  (Chamber.all.filter fun c => qualityChanged u v (.chamber c)).map Subject.chamber ++
    (if qualityChanged u v (.pound .upper) || qualityChanged u v (.pound .lower) then [.lock] else [])

/-- The scan completion on the level scanner, with its notices (R27, R33). -/
def State.applyScan (s : State) (a : ConverterAnswer) : State :=
  let levels := s.levels.scan s.cfg s.now a
  (qualitySubjects s.levels levels).foldl (fun s x => s.produce (.levelQuality x)) { s with levels }

/-! ### Depth over the sills -/

/-- The depth over a sill (R36). -/
def State.depth? (s : State) (c : Chamber) (e : End) : Option Int :=
  (s.lastLevel? (.pound e)).map fun l => l - (s.cfg.chambers.get c).sill e

/-- The sill test (R37): the reason of its failure, or nothing when it passes. -/
def State.sillTest (s : State) (c : Chamber) (draught : Nat) : Option Deferral :=
  match s.depth? c .upper, s.depth? c .lower with
  | some u, some l =>
    let required : Int := draught * 10 + s.cfg.keelClearance
    if u < required || l < required then some .sill else none
  | _, _ => some .level

end Sys2Proof.Machine
end

