-- ==== Sys2Proof/Machine/Traffic.lean ====
section
/-! DEFINITION. The traffic unit (06, 07): resolution (R108), fitting (R109), the queues and their order (R114 to R116), the
seven tests of taking (R125, R126), taking (R127), the formation walk (R128), the re-check of a pop (R137), the not-entered
list (R130, R131). -/

namespace Sys2Proof

/-- An earlier arrival (R114): day number, then second of day. -/
def LockTime.before (a b : LockTime) : Bool := a.day < b.day || (a.day = b.day && a.second < b.second)

end Sys2Proof

namespace Sys2Proof.Machine

/-! ### The vessel table -/

/-- The resolution of a handle with an optional expected mark (R108). -/
def State.resolve (s : State) (h : Nat) (expected : Option Mark) : Option Vessel :=
  match s.vessel? h with
  | some v => if expected = none ∨ expected = some v.mark then some v else none
  | none => none

/-- A character of a mark (R107): a capital letter, a digit or a hyphen. -/
def markChar (b : Byte) : Bool :=
  (0x41 ≤ b.toNat && b.toNat ≤ 0x5A) || (0x30 ≤ b.toNat && b.toNat ≤ 0x39) || b.toNat = 0x2D

/-- A well-formed mark (R107). -/
def markOk (m : Mark) : Bool := 1 ≤ m.length && m.length ≤ 8 && m.all markChar

/-- An expected mark that is no mark (R107). -/
def malformed (expected : Option Mark) : Bool := (expected.map fun m => !markOk m).getD false

/-- The refusal of a handle that does not resolve (R107, R108): BAD_VALUE for an expected mark that is no mark, UNKNOWN_VESSEL
otherwise (log 24). -/
def resolveFault (expected : Option Mark) : Result := if malformed expected then .badValue else .unknownVessel

/-- The lowest free handle (R108). -/
def State.freeHandle (s : State) : Option Nat := (List.range' 1 vesselTableSize).find? fun h => (s.vessel? h).isNone

/-- The table lists its records by rising handle. -/
def insertVessel (v : Vessel) : List Vessel → List Vessel
  | [] => [v]
  | w :: ws => if v.handle < w.handle then v :: w :: ws else w :: insertVessel v ws

def State.addRecord (s : State) (v : Vessel) : State :=
  s.modTraffic fun t => { t with vessels := insertVessel v t.vessels }

def State.modVessel (s : State) (h : Nat) (g : Vessel → Vessel) : State :=
  s.modTraffic fun t => { t with vessels := t.vessels.map fun v => if v.handle = h then g v else v }

/-- A vessel fits a chamber (R109). -/
def State.fits (s : State) (c : Chamber) (length beam : Nat) : Bool :=
  let k := s.cfg.chambers.get c
  beam + 2 * s.cfg.sideClearance ≤ k.clearWidth && length + s.cfg.vesselSpacing ≤ k.usableLength

/-- A vessel fits chamber A or chamber B (R109, R111). -/
def State.fitsSome (s : State) (length beam : Nat) : Bool := s.fits .A length beam || s.fits .B length beam

/-! ### The approach queues -/

/-- The queue order (R114): priority, arrival time, handle. -/
def State.ahead (s : State) (v w : Vessel) : Bool :=
  s.priority w.cls < s.priority v.cls ||
    (s.priority v.cls = s.priority w.cls &&
      (v.arrival.before w.arrival ||
        (!w.arrival.before v.arrival && v.handle < w.handle)))

/-- The place that the keys give a vessel (R114). -/
def State.placeIn (s : State) (v : Vessel) : List Nat → List Nat
  | [] => [v.handle]
  | h :: hs =>
    match s.vessel? h with
    | some w => if s.ahead v w then v.handle :: h :: hs else h :: s.placeIn v hs
    | none => h :: s.placeIn v hs

/-- Insert a vessel into the queue of its direction (R114). -/
def State.enqueue (s : State) (v : Vessel) : State :=
  s.modTraffic fun t => { t with queues := t.queues.set v.direction.entryEnd (s.placeIn v (t.queues.get v.direction.entryEnd)) }

/-- Remove a handle from both queues. -/
def State.dequeue (s : State) (h : Nat) : State :=
  s.modTraffic fun t => { t with queues := t.queues.map fun q => q.filter (· ≠ h) }

/-- A vessel returns to its queue (R115). -/
def State.returnVessel (s : State) (v : Vessel) : State :=
  let w := { v with state := .waiting, deferral := none }
  (s.modVessel v.handle fun _ => w).enqueue w

/-- A vessel is deleted from the table and the queues (R104). -/
def State.deleteVessel (s : State) (h : Nat) : State :=
  (s.dequeue h).modTraffic fun t => { t with vessels := t.vessels.filter fun v => v.handle ≠ h }

/-! ### The tests of taking -/

/-- Admissible at a chamber's admission level (R118). -/
def State.admissible (s : State) (c : Chamber) (cls : VesselClass) : Bool :=
  s.traffic.admission.get c ≤ s.priority cls || cls = .emergency

/-- Tests 1 to 3 against a plan of a used length (R125). -/
def State.geometryFault (s : State) (c : Chamber) (used : Nat) (v : Vessel) : Option Deferral :=
  let k := s.cfg.chambers.get c
  if k.clearWidth < v.beam + 2 * s.cfg.sideClearance then some .beam
  else if k.usableLength < used + v.length + s.cfg.vesselSpacing then some .length
  else s.sillTest c v.draught

/-- The hazard test against the classes of a plan (R125). -/
def hazard (cls : VesselClass) (plan : List VesselClass) : Bool :=
  (cls = .tanker && plan.contains .passenger) || (cls = .passenger && plan.contains .tanker)

/-- Tests 4 to 6 (R125). -/
def State.companyFault (s : State) (c : Chamber) (l : LockageRecord) (v : Vessel) : Option Deferral :=
  if !s.admissible c v.cls then some .admission
  else if hazard v.cls ((s.planVessels l).map (·.cls)) then some .hazard
  else if vesselsPerLockage ≤ l.plan.length then some .count
  else none

/-- Tests 1 to 6, which change no state (R125). -/
def State.testFault (s : State) (c : Chamber) (l : LockageRecord) (v : Vessel) : Option Deferral :=
  (s.geometryFault c l.usedLength v).or (s.companyFault c l v)

/-- Test 7 (R125, R126): the state with a reservation for the chamber's plan, or nothing. -/
def State.recordSpace? (s : State) (c : Chamber) (l : LockageRecord) (cls : VesselClass) : Option State :=
  if l.reservation ≠ .none then some s
  else
    (s.reserve? (cls = .emergency)).map fun s' =>
      s'.modLockage c fun l => { l with reservation := if cls = .emergency then .emergency else .normal }

/-- What a vessel adds to a plan's used length (R127). -/
def State.roomOf (s : State) (v : Vessel) : Nat := v.length + s.cfg.vesselSpacing

/-- Taking a vessel (R127, R116). -/
def State.takeVessel (s : State) (c : Chamber) (v : Vessel) : State :=
  ((s.dequeue v.handle).modVessel v.handle fun v => { v with state := .assigned c, deferral := none }).modLockage c
    fun l =>
      { l with
        plan := l.plan ++ [⟨v.handle, false⟩]
        usedLength := l.usedLength + s.roomOf v
        emergency := l.emergency || decide (v.cls = .emergency) }

/-- The outcome of an attempt to take a vessel (R125). -/
inductive Taking where
  | taken (s : State)
  | failed (r : Deferral)
  deriving DecidableEq, Repr

/-- Test a vessel against a chamber's plan and take it when it passes (R125, R127). -/
def State.tryTake (s : State) (c : Chamber) (v : Vessel) : Taking :=
  match (s.seq c).lockage with
  | none => .failed .recordSpace
  | some l =>
    match s.testFault c l v with
    | some r => .failed r
    | none =>
      match s.recordSpace? c l v.cls with
      | none => .failed .recordSpace
      | some s' => .taken (s'.takeVessel c v)

/-! ### Formation -/

/-- Record a deferral reason (R119), to be notified at the end of the event (R120). -/
def State.defer (s : State) (v : Vessel) (r : Deferral) : State :=
  (s.modVessel v.handle fun v => { v with deferral := some r }).modEvent fun e =>
    { e with deferred := e.deferred.set v.direction.entryEnd true }

/-- One vessel of the walk (R128). -/
def State.walkOne (c : Chamber) (s : State) (h : Nat) : State :=
  match s.vessel? h with
  | none => s
  | some v =>
    match s.tryTake c v with
    | .taken s' => s'
    | .failed r => s.defer v r

/-- The formation walk over the queue of a direction (R128), in the queue's order at the start of the walk. -/
def State.walk (s : State) (c : Chamber) (d : Direction) : State :=
  (s.traffic.queues.get d.entryEnd).foldl (State.walkOne c) s

/-- One saved vessel of a pop's re-check (R137). -/
def State.recheckOne (c : Chamber) (s : State) (h : Nat) : State :=
  match s.vessel? h with
  | none => s
  | some v =>
    match s.tryTake c v with
    | .taken s' => s'
    | .failed r => (s.returnVessel v).defer v r

/-- Formation (R128), preceded by the re-check of the saved vessels at a pop (R137). -/
def State.formPlan (s : State) (c : Chamber) (d : Direction) (saved : List Nat) : State :=
  (saved.foldl (State.recheckOne c) s).walk c d

/-! ### Giving back -/

/-- The chamber's reservation is released and becomes none (R173). -/
def State.releaseReservation (s : State) (c : Chamber) : State :=
  match (s.seq c).lockage with
  | none => s
  | some l =>
    if l.reservation = .none then s
    else (s.modAcct AccountingUnit.release).modLockage c fun l => { l with reservation := .none }

/-- A vessel's entry leaves a chamber's plan (R113, R131). -/
def State.leavePlan (s : State) (c : Chamber) (v : Vessel) : State :=
  s.modLockage c fun l =>
    { l with plan := l.plan.filter fun e => e.handle ≠ v.handle, usedLength := l.usedLength - s.roomOf v }

/-- A plan left with no entries gives its reservation back (R113, R131). -/
def State.releaseIfEmpty (s : State) (c : Chamber) : State :=
  match (s.seq c).lockage with
  | some l => if l.plan = [] then s.releaseReservation c else s
  | none => s

/-- The handles of a chamber's plan. -/
def State.planHandles (s : State) (c : Chamber) : List Nat :=
  match (s.seq c).lockage with
  | some l => l.plan.map (·.handle)
  | none => []

/-! ### The not-entered list (R130, R131) -/

/-- The checks of the list in order (R130); a list with a mark that is no mark is refused BAD_VALUE where it does not resolve
(R107, log 24). -/
def State.listFault (s : State) (c : Chamber) (list : List (Nat × Option Mark)) : Option Result :=
  if list.any fun e => (s.resolve e.1 e.2).isNone then
    some (if list.any fun e => malformed e.2 then .badValue else .unknownVessel)
  else if vesselsPerLockage < list.length ∨ ¬ (list.map Prod.fst).Nodup then some .badValue
  else if list.any fun e => ((s.vessel? e.1).map (·.state)) ≠ some (.assigned c) then some .condition
  else none

/-- Steps 1 to 3 of R131 for one listed vessel. -/
def State.giveBack (c : Chamber) (s : State) (h : Nat) : State :=
  match s.vessel? h with
  | none => s
  | some v => (s.leavePlan c v).returnVessel v

/-- A vessel of the plan becomes ABOARD (R131). -/
def State.board (c : Chamber) (s : State) (h : Nat) : State :=
  s.modVessel h fun v => { v with state := .aboard c }

/-- The traffic unit's part of CLOSE ENTRY (R131). -/
def State.closeList (s : State) (c : Chamber) (handles : List Nat) : State :=
  let s1 := (handles.foldl (State.giveBack c) s).releaseIfEmpty c
  let s2 := (s1.planHandles c).foldl (State.board c) s1
  s2.modLockage c fun l => { l with plan := l.plan.map fun e => { e with aboard := true } }

/-! ### The end of a lockage -/

/-- The vessels of the plan are deleted (R58). -/
def State.deletePlan (s : State) (c : Chamber) : State := (s.planHandles c).foldl State.deleteVessel s

/-- One vessel of an abandoned plan (R68): ASSIGNED returns, ABOARD is deleted. -/
def State.abandonOne (c : Chamber) (s : State) (h : Nat) : State :=
  match s.vessel? h with
  | none => s
  | some v => if v.state = .aboard c then s.deleteVessel h else s.returnVessel v

/-- The vessels of an abandoned plan (R68). -/
def State.abandonPlan (s : State) (c : Chamber) : State := (s.planHandles c).foldl (State.abandonOne c) s

/-! ### The plan stack -/

/-- Replace a chamber's plan stack. -/
def State.setStack (s : State) (c : Chamber) (l : List SavedPlan) : State :=
  s.modTraffic fun t => { t with planStacks := t.planStacks.set c l }

/-- A vessel of a pushed plan becomes SAVED (R135). -/
def State.saveOne (c : Chamber) (s : State) (h : Nat) : State := s.modVessel h fun v => { v with state := .saved c }

/-- The push of a preemption (R135): a plan with no vessel saves nothing (R138). -/
def State.pushPlan (s : State) (c : Chamber) (l : LockageRecord) : State :=
  let handles := l.plan.map (·.handle)
  if handles = [] then s
  else
    (handles.foldl (State.saveOne c) s).setStack c
      (⟨l.direction, l.startTime, handles⟩ :: s.traffic.planStacks.get c)

/-- A withdrawn vessel leaves its saved plan; a plan left empty is discarded (R112). -/
def State.unsave (s : State) (c : Chamber) (h : Nat) : State :=
  s.setStack c (((s.traffic.planStacks.get c).map fun p => { p with handles := p.handles.filter (· ≠ h) }).filter
    fun p => p.handles ≠ [])

end Sys2Proof.Machine
end

