-- ==== Sys2Proof/Machine/Sequencer.lean ====
section
/-! DEFINITION. The chamber sequencer (03): targets (R44, the phase table), entering a phase with its settings (R45 to R57), a
new lockage (R47), ending conditions (R48 to R57), requests and step points (R44, R51, R61), hold orders (R64, R65); with the
parts of the cross arbiter that a phase change calls: registering a claim (R75), ending an exchange (R79), withdrawing a
claim (R82). -/

namespace Sys2Proof

/-- The resume phase that leaving a phase for HOLD or SAFING records (R54, R64, R92). -/
def Phase.resumeOf : Phase → Phase
  | .crossing => .levelling
  | p => p

/-- A reason whose order also stops the movements of a chamber in HOLD (R64). -/
def HoldReason.stopsInHold : HoldReason → Bool
  | .commanded | .seized | .sill => true
  | _ => false

end Sys2Proof

namespace Sys2Proof.Machine

/-! ### Ending an exchange and withdrawing a claim -/

/-- Stop the wait timer of a chamber's claim (R78, R79). -/
def CrossClaim.stopped (k : CrossClaim) : CrossClaim := { k with waitRunning := false }

/-- End the exchange (R79): timers stop, the stage is CLOSING, XV is asked to close; both level timers stop (R59). -/
def State.endExchange (s : State) : State :=
  let s1 : State :=
    { s with
      cross :=
        { s.cross with
          exchangeTimer := none
          claims := .of fun c => if s.granted c then (s.cross.claims.get c).map CrossClaim.stopped else s.cross.claims.get c
          stage := .closing }
      seqs := s.seqs.map fun q => { q with levelTimer := none } }
  s1.startRequest .xv .toClose

/-- A sequencer withdraws its claim on leaving CROSSING for HOLD or SAFING (R82). -/
def State.withdrawClaim (s : State) (c : Chamber) : State :=
  let s1 := s.setClaim c none
  if s.granted c && (s.cross.stage = .opening || s.cross.stage = .flowing) then s1.endExchange else s1

/-- The need of a chamber's claim (R75). -/
def State.crossNeed (s : State) (c : Chamber) : Option Need :=
  match s.level? (.chamber c), (s.direction? c).bind fun d => s.level? (.pound d.exitEnd) with
  | some a, some b =>
    if (s.cfg.equalizeWindow : Int) < a - b then some .drain
    else if (s.cfg.equalizeWindow : Int) < b - a then some .fill
    else none
  | _, _ => none

/-- Keep a claim with a need (R75). -/
def State.keepClaim (s : State) (c : Chamber) (n : Need) : State :=
  s.setClaim c (some ⟨n, s.now, s.now + seconds s.cfg.crossWaitLimit, true⟩)

/-! ### Targets -/

/-- The sluice whose level a phase works on, with the end of its pound: the entry sluice in PRE_LEVELLING, the exit sluice
in LEVELLING (R50, R55). -/
def levellingEnd (p : Phase) (d : Direction) : Option End :=
  match p with
  | .preLevelling => some d.entryEnd
  | .levelling => some d.exitEnd
  | _ => none

/-- The gate end that an opening phase opens (R51, R57). -/
def openingEnd (p : Phase) (d : Direction) : Option End :=
  match p with
  | .entryOpening => some d.entryEnd
  | .exitOpening => some d.exitEnd
  | _ => none

/-- The target of a device of the chamber in its present phase (the phase table of section 3.2; R49 to R57). -/
def Sequencer.target? (q : Sequencer) (dir : Direction) (d : Device) : Option Target :=
  match q.phase, d with
  | .turning, .gate _ e => if q.entryExcuse && e = dir.entryEnd then none else some .toClose
  | .turning, .sluice _ _ => some .toClose
  | .preLevelling, .sluice _ e =>
    if e = dir.entryEnd then some (if q.levelReached then .toClose else .toOpen) else none
  | .levelling, .sluice _ e =>
    if e = dir.exitEnd then some (if q.levelReached then .toClose else .toOpen) else none
  | .entryOpening, .gate _ e => if e = dir.entryEnd then some .toOpen else none
  | .exitOpening, .gate _ e => if e = dir.exitEnd then some .toOpen else none
  | .entryClosing, .gate _ e => if e = dir.entryEnd then some .toClose else none
  | _, _ => none

/-- The target of a device in the chamber's phase, when the chamber has a lockage. -/
def State.target? (s : State) (c : Chamber) (d : Device) : Option Target :=
  (s.direction? c).bind fun dir => (s.seq c).target? dir d

/-! ### Entering a phase -/

/-- The excused entry gate (R48 test 2, R49). -/
def State.gateExcused (s : State) (c : Chamber) (dir : Direction) : Bool :=
  let p := (s.dev (.gate c dir.entryEnd)).position
  (p = .opened || p = .stopped) && s.equalized c dir.entryEnd

/-- The levelling marks that an entry to LEVELLING already level sets (R55, R56). -/
def LockageRecord.markLevel (l : LockageRecord) (level : Option Int) : LockageRecord :=
  if l.startMark = none then { l with startMark := level, endMark := level.or l.endMark }
  else { l with endMark := level.or l.endMark }

/-- The fault that a sequencer raises for its own chamber, or finds standing (R59, R60, R96), goes to the chamber. -/
def State.raise (s : State) (c : Chamber) (k : FaultKind) (d : Option Device) : State :=
  s.report (.chamber c ⟨k, d, s.lockTime⟩)

/-- The lost age of a pair has reached the level-lost limit (R60). -/
def State.lostTooLong (s : State) (p : Place) : Bool :=
  match s.lostAge? p with
  | some a => seconds s.cfg.levelLostLimit ≤ a
  | none => false

/-- The pound end that a phase watches with its chamber (R60). -/
def watchedEnd (p : Phase) (d : Direction) (levelReached : Bool) : Option End :=
  match p with
  | .preLevelling => if levelReached then none else some d.entryEnd
  | .levelling => if levelReached then none else some d.exitEnd
  | .crossing => some d.exitEnd
  | _ => none

/-- LEVEL_LOST is due in the chamber's present visit (R60). -/
def State.levelLostDue (s : State) (c : Chamber) : Bool :=
  match (s.direction? c).bind fun d => watchedEnd (s.phase c) d (s.seq c).levelReached with
  | some e => !(s.seq c).levelLostRaised && (s.lostTooLong (.chamber c) || s.lostTooLong (.pound e))
  | none => false

/-- Raise LEVEL_LOST when it is due (R60). -/
def State.levelLostCheck (s : State) (c : Chamber) : State :=
  if s.levelLostDue c then (s.modSeq c fun q => { q with levelLostRaised := true }).raise c .levelLost none else s

/-- A device that a phase finds standing in fault at its entry (R96). -/
def State.standsFaulted (s : State) (c : Chamber) (d : Device) : Bool :=
  match s.target? c d with
  | some t =>
    !s.reached d t && (s.dev d).position = .faulted && !(s.dev d).queryFlag && s.event.faultedBefore.get d
  | none => false

/-- Take a standing device fault of the chamber (R96): the device's recorded kind, at the present lock time. -/
def State.raiseStanding (s : State) (c : Chamber) (d : Device) : State :=
  match (s.dev d).faultKind with
  | some k => s.raise c k (some d)
  | none => s

/-- The standing faults found at an entry to a phase (R96). -/
def State.standingCheck (s : State) (c : Chamber) : State :=
  (c.devices.filter (s.standsFaulted c)).foldl (fun s d => s.raiseStanding c d) s

/-- The settings of a levelling phase at its entry (R50, R55, R59). -/
def State.levelSettings (s : State) (c : Chamber) (e : End) : State :=
  s.modSeq c fun q => { q with levelReached := s.equalized c e, timerDue := !s.equalized c e }

/-- The settings that a phase makes at its entry (R49, R50, R55). -/
def State.entrySettings (s : State) (c : Chamber) (p : Phase) : State :=
  match s.direction? c with
  | none => s
  | some dir =>
    match p with
    | .turning => s.modSeq c fun q => { q with entryExcuse := s.gateExcused c dir }
    | .preLevelling => (s.levelSettings c dir.entryEnd).levelLostCheck c
    | .levelling =>
      let s1 := s.levelSettings c dir.exitEnd
      if s.equalized c dir.exitEnd then s1.modLockage c fun l => l.markLevel (s.lastLevel? (.chamber c))
      else s1.levelLostCheck c
    | _ => s

/-- The chamber leaves its phase for another (R45): the step wait ends, the level timer stops, level reached and level-lost
raised become no; PHASE_CHANGED follows (R72). The entry excuse keeps the value of the last TURNING visit, of which R49 does not
speak after that visit (DESIGN CHOICE, log 54). -/
def State.changePhase (s : State) (c : Chamber) (p : Phase) : State :=
  (s.modSeq c fun q =>
    { q with phase := p, stepWait := none, levelTimer := none, timerDue := false, levelReached := false,
             levelLostRaised := false }).produce (.phaseChanged c (s.phase c))

/-- Enter a phase with its settings and its check for standing faults. LEVEL_LOST, where the entry finds it due (R60), is reported
before a standing device fault (R96), so it becomes the first fault of the two (DESIGN CHOICE, log 55). -/
def State.enterPlain (s : State) (c : Chamber) (p : Phase) : State :=
  ((s.changePhase c p).entrySettings c p).standingCheck c

/-- Enter a phase (R45). CROSSING registers a claim; one without a need releases the chamber to LEVELLING at once (R54,
R75). -/
def State.enterPhase (s : State) (c : Chamber) (p : Phase) : State :=
  if p = .crossing then
    let s1 := s.changePhase c .crossing
    match s1.crossNeed c with
    | some n => s1.keepClaim c n
    | none => s1.enterPlain c .levelling
  else s.enterPlain c p

/-! ### A new lockage (R47) -/

/-- The record that an entry to FORMING creates (R47). -/
def State.newRecord (s : State) (d : Direction) : LockageRecord :=
  { serial := nextSerial s.acct.serial, direction := d, plan := [], usedLength := 0, reservation := .none,
    snapshot := s.charge.snapshot, startTime := s.lockTime, startMark := none, endMark := none, crossStart := none,
    crossEnd := none, crossUsed := false, emergency := false }

/-- Enter FORMING with a new lockage record and form its plan, the saved vessels of a pop first (R47, R128). -/
def State.enterForming (s : State) (c : Chamber) (d : Direction) (saved : List Nat) : State :=
  let record := s.newRecord d
  let s1 := s.modAcct fun u => { u with serial := record.serial }
  let s2 := (s1.changePhase c .forming).modSeq c fun q => { q with lockage := some record }
  s2.formPlan c d saved

/-- The chamber enters IDLE; a plan stack that is not empty is popped at once (R58, R68, R137). -/
def State.enterIdle (s : State) (c : Chamber) : State :=
  let s1 := (s.changePhase c .idle).modSeq c fun q => { q with lockage := none, holds := .empty, resume := none }
  match s1.traffic.planStacks.get c with
  | [] => s1
  | p :: rest => (s1.setStack c rest).enterForming c p.direction p.handles

/-! ### Ending conditions -/

/-- Both sluices of the chamber are confirmed CLOSED. -/
def State.sluicesClosed (s : State) (c : Chamber) : Bool :=
  s.confirmedClosed (.sluice c .upper) && s.confirmedClosed (.sluice c .lower)

/-- A gate that sends FORMING to TURNING (R48 test 2). -/
def State.gateMustClose (s : State) (c : Chamber) (dir : Direction) (e : End) : Bool :=
  !s.confirmedClosed (.gate c e) && !(e = dir.entryEnd && s.gateExcused c dir)

/-- The choice of FORMING (R48). -/
def State.formingNext (s : State) (c : Chamber) (dir : Direction) : Phase :=
  if (s.dev (.gate c dir.entryEnd)).position = .opened && s.equalized c dir.entryEnd && s.sluicesClosed c then .entry
  else if s.gateMustClose c dir .upper || s.gateMustClose c dir .lower || !s.sluicesClosed c then .turning
  else if !s.equalized c dir.entryEnd then .preLevelling
  else .entryOpening

/-- Every target of the present phase is reached. -/
def State.targetsReached (s : State) (c : Chamber) : Bool :=
  c.devices.all fun d => match s.target? c d with
    | some t => s.reached d t
    | none => true

/-- The sluice of a levelling phase has a START in the queue or on the line: it is yet to move, and the phase ends on its confirmed
CLOSED after that like any other (R50, R55; log 52). -/
def State.sluiceStarting (s : State) (c : Chamber) (dir : Direction) : Bool :=
  match levellingEnd (s.phase c) dir with
  | some e => (s.dev (.sluice c e)).startQueued || (s.dev (.sluice c e)).startOnLine
  | none => false

/-- The next phase, when the ending condition of the present one holds (the phase table of section 3.2). -/
def State.nextPhase? (s : State) (c : Chamber) (dir : Direction) : Option Phase :=
  match s.phase c with
  | .forming => if s.chamberAtRest c then some (s.formingNext c dir) else none
  | .turning =>
    if s.targetsReached c then some (if s.equalized c dir.entryEnd then .entryOpening else .preLevelling) else none
  | .preLevelling =>
    if (s.seq c).levelReached && s.targetsReached c && !s.sluiceStarting c dir then some .entryOpening else none
  | .entryOpening => if s.targetsReached c then some .entry else none
  | .entryClosing =>
    if s.targetsReached c then
      some (if s.cfg.crossWaitLimit ≠ 0 && (s.dev .xv).position ≠ .faulted then .crossing else .levelling)
    else none
  | .levelling =>
    if (s.seq c).levelReached && s.targetsReached c && !s.sluiceStarting c dir then some .exitOpening else none
  | .exitOpening => if s.targetsReached c then some .exit else none
  | _ => none

/-- Enter the next phase; the exit gate's confirmed opening finalizes the lockage first (R57). -/
def State.advancePhase (s : State) (c : Chamber) (p : Phase) : State :=
  if s.phase c = .exitOpening then (s.finalize c).enterPhase c p else s.enterPhase c p

/-- The onset of equalization in a levelling visit (R50, R55): level reached becomes yes, the timer stops, and in LEVELLING
the end mark is set. -/
def State.levelOnset (s : State) (c : Chamber) : State :=
  let s1 := s.modSeq c fun q => { q with levelReached := true, levelTimer := none }
  if s.phase c = .levelling then s1.modLockage c fun l => { l with endMark := (s.lastLevel? (.chamber c)).or l.endMark }
  else s1

/-- The chamber has become equalized with the pound of its levelling phase (R50, R55). -/
def State.onsetDue (s : State) (c : Chamber) : Bool :=
  match (s.direction? c).bind (levellingEnd (s.phase c)) with
  | some e => !(s.seq c).levelReached && s.equalized c e
  | none => false

/-- The phase to which an opening phase returns on loss of level (R51, R57). -/
def returnPhase : Phase → Phase
  | .exitOpening => .levelling
  | _ => .preLevelling

/-- A gate that has not begun to open: neither OPENING nor OPEN, no START on the line, and not awaiting DONE after an
accepted START OPEN (R51). A gate awaits DONE so only while its outstanding command is still OPEN: one whose outstanding command has
become STOP does not (DESIGN CHOICE, log 58). -/
def DeviceRecord.notOpening (r : DeviceRecord) : Bool :=
  r.position ≠ .opening && r.position ≠ .opened && !r.startOnLine &&
    !(r.awaitingDone && r.outstanding = some (.move .toOpen))

/-- The return on loss of level, when it is due (R51, R57). -/
def State.levelReturn? (s : State) (c : Chamber) : Option State :=
  match (s.direction? c).bind (openingEnd (s.phase c)) with
  | some e =>
    if !s.equalized c e && (s.dev (.gate c e)).notOpening then
      some ((s.stopRequest (.gate c e)).enterPhase c (returnPhase (s.phase c)))
    else none
  | none => none

/-! ### Hold orders -/

/-- The chamber leaves its phase for HOLD or SAFING: a chamber in CROSSING withdraws its claim (R54, R82). -/
def State.leaveFor (s : State) (c : Chamber) (p : Phase) : State :=
  let s1 := s.changePhase c p
  if s.phase c = .crossing then s1.withdrawClaim c else s1

/-- STOP requests on entering HOLD, for every reason but NO_HOLDER (R65). -/
def State.holdStops (s : State) (c : Chamber) (r : HoldReason) : State :=
  if r = .noHolder then s else s.stopChamber c

/-- Enter HOLD with a reason from IDLE or a working phase (R64, R65, R72). -/
def State.enterHold (s : State) (c : Chamber) (r : HoldReason) : State :=
  let s1 := s.modSeq c fun q => { q with holds := HoldSet.empty.put r true, resume := some (s.phase c).resumeOf }
  ((s1.leaveFor c .hold).holdStops c r).produce (.holdEntered c r)

/-- Add a reason to the hold set (R64, R72). -/
def State.addReason (s : State) (c : Chamber) (r : HoldReason) : State :=
  (s.modSeq c fun q => { q with holds := q.holds.put r true }).produce (.holdEntered c r)

/-- A hold order (R64). -/
def State.holdOrder (s : State) (c : Chamber) (r : HoldReason) : State :=
  match s.phase c with
  | .hold => if r.stopsInHold then (s.stopChamber c).addReason c r else s.addReason c r
  | .safing => s.addReason c r
  | .outOfService | .lockedOut => s
  | _ => s.enterHold c r

/-! ### Requests and step points -/

/-- A sluice that stands at its target CLOSE once level is reached, but still has its START OPEN in the queue: the request for
CLOSE replaces that START's target (R50, R55; log 52). -/
def State.opensAgainst (s : State) (c : Chamber) (d : Device) (t : Target) : Bool :=
  (s.seq c).levelReached && t = .toClose && (s.dev d).queuedStart .toOpen

/-- The command for a device is due under R44, for its target. An opening phase asks only while its chamber is equalized
with its pound (R51, R57); a barred device takes no START request (R6, R25). -/
def State.dueTarget? (s : State) (c : Chamber) (d : Device) : Option Target :=
  match (s.direction? c), s.target? c d with
  | some dir, some t =>
    let r := s.dev d
    let level := match openingEnd (s.phase c) dir with
      | some e => s.equalized c e
      | none => true
    if level && !s.isBarred d && (!s.reached d t || s.opensAgainst c d t) && r.position ≠ .faulted && r.outstanding ≠ some (.move t) &&
        r.nextStart ≠ some t then some t
    else none
  | _, _ => none

/-- The first command due, in the order of R49. -/
def State.firstDue? (s : State) (c : Chamber) : Option (Device × Target) :=
  c.devices.findSome? fun d => (s.dueTarget? c d).map fun t => (d, t)

/-- The governing head of the chamber's opening phase is red-dark (R146). -/
def State.governedDark (s : State) (c : Chamber) : Bool :=
  match (s.direction? c).bind fun dir => governingHead c dir (s.phase c) with
  | some h => s.redDark h
  | none => false

/-- The start mark is taken when LEVELLING asks for its sluice to open, while it is unset (R55, R56). -/
def State.markStart (s : State) (c : Chamber) (t : Target) : State :=
  if s.phase c = .levelling && t = .toOpen then
    s.modLockage c fun l => { l with startMark := l.startMark.or (s.lastLevel? (.chamber c)) }
  else s

/-- Make a START request of the sequencer past its step point (R44): the opening test comes first (R51, R57, R146). -/
def State.makeRequest (s : State) (c : Chamber) (d : Device) (t : Target) : State :=
  if s.governedDark c then s.holdOrder c .signal else (s.markStart c t).startRequest d t

/-- Record a step wait (R61). -/
def State.setStepWait (s : State) (c : Chamber) (d : Device) (t : Target) : State :=
  (s.modSeq c fun q => { q with stepWait := some (d, t) }).produce (.stepWait c d t)

/-- Remove the step wait (R61). -/
def State.clearStepWait (s : State) (c : Chamber) : State := s.modSeq c fun q => { q with stepWait := none }

/-- What STEP mode does at a test under R44, when it does anything (R61). -/
def State.stepTest? (s : State) (c : Chamber) : Option State :=
  match (s.seq c).stepWait with
  | none => (s.firstDue? c).map fun x => s.setStepWait c x.1 x.2
  | some (d, t) =>
    match s.dueTarget? c d with
    | none => some (s.clearStepWait c)
    | some t' => if t' = t then none else some (s.setStepWait c d t')

/-- The next request of the sequencer, when one is due (R44, R61). -/
def State.requestTest? (s : State) (c : Chamber) : Option State :=
  match (s.seq c).stepMode with
  | .auto => (s.firstDue? c).map fun x => s.makeRequest c x.1 x.2
  | .step => s.stepTest? c

/-- Release the step wait (R62): it is removed and the waiting START request is made. -/
def State.releaseStep (s : State) (c : Chamber) : State :=
  match (s.seq c).stepWait with
  | some (d, t) => (s.clearStepWait c).makeRequest c d t
  | none => s

/-- One test of a chamber in a working phase with a holder (R44, R45), when it changes anything. -/
def State.workTest? (s : State) (c : Chamber) : Option State :=
  if (s.phase c).working && (s.holder c).isSome then
    match (s.direction? c).bind (s.nextPhase? c) with
    | some p => some (s.advancePhase c p)
    | none => (s.levelReturn? c).or (s.requestTest? c)
  else none

end Sys2Proof.Machine
end

