-- ==== Sys2Proof/Machine/FaultRules.lean ====
section
/-! DEFINITION. Faults, safing and lock-out (05): taking a fault (R90, R91, R100), SAFING (R92 to R94), LOCKED_OUT (R97), the
standing fault that a query's answer finds (R96). -/

namespace Sys2Proof.Machine

/-- The safing request for a gate (R93). -/
def State.safeGate (s : State) (c : Chamber) (e : End) : State := s.stopRequest (.gate c e)

/-- The safing requests for a sluice (R93): STOP while it is opening, then CLOSE. -/
def State.safeSluice (s : State) (c : Chamber) (e : End) : State :=
  let d : Device := .sluice c e
  let r := s.dev d
  if s.confirmedClosed d || r.position = .faulted then s
  else
    let s1 := if r.outstanding = some (.move .toOpen) || r.queuedStart .toOpen then s.stopRequest d else s
    let r1 := s1.dev d
    if r1.outstanding = some (.move .toClose) || r1.nextStart = some .toClose then s1 else s1.startRequest d .toClose

/-- The safing requests of a chamber (R93). -/
def State.safingRequests (s : State) (c : Chamber) : State :=
  (((s.safeGate c .upper).safeGate c .lower).safeSluice c .upper).safeSluice c .lower

/-- SAFING may end (R94). -/
def State.safingEnds (s : State) (c : Chamber) : Bool :=
  [End.upper, End.lower].all (fun e =>
    (s.confirmedClosed (.sluice c e) || (s.dev (.sluice c e)).position = .faulted) &&
      ((s.dev (.gate c e)).atRest || (s.dev (.gate c e)).position = .faulted)) && !s.granted c

/-- The end of SAFING (R94): HOLD with FAULT beside the reasons carried; the resume phase stays. -/
def State.endSafing (s : State) (c : Chamber) : State :=
  let s1 := (s.changePhase c .hold).modSeq c fun q => { q with holds := q.holds.put .fault true }
  (s1.stopChamber c).produce (.holdEntered c .fault)

/-- Enter SAFING with the hold record of R92; the safing requests are made at entry (R93). -/
def State.enterSafing (s : State) (c : Chamber) : State :=
  let p := s.phase c
  let s1 :=
    if p = .hold then s
    else s.modSeq c fun q => { q with holds := .empty, resume := some p.resumeOf }
  (s1.leaveFor c .safing).safingRequests c

/-- Enter LOCKED_OUT (R97). -/
def State.lockOut (s : State) (c : Chamber) : State :=
  let s1 := (s.changePhase c .lockedOut).modSeq c fun q => { q with holds := .empty }
  (s1.barOrder c).produce (.lockedOut c)

/-- The class of a fault taken under a configuration read that ended INVALID (R100). -/
def FaultRecord.classWithout (r : FaultRecord) : FaultClass :=
  match r.first, r.second with
  | none, _ => .first
  | some _, none => .second
  | some _, some _ => .later

/-- The class of a fault by the chamber's phase at the moment of taking (R90, R100). -/
def State.classify (s : State) (c : Chamber) : FaultClass :=
  match s.phase c with
  | .safing => .second
  | .hold => if (s.seq c).holds.fault then .second else .first
  | .lockedOut => .later
  | .outOfService => if s.configValid then .first else (s.seq c).faults.classWithout
  | _ => .first

/-- What a fault of a class writes in the fault record (R90, R100). -/
def FaultRecord.write (r : FaultRecord) (k : FaultClass) (f : FaultEntry) : FaultRecord :=
  match k with
  | .first => ⟨some f, none, false⟩
  | .second => { r with second := some f }
  | .later => r

/-- No fault moves a chamber that stands OUT_OF_SERVICE under an INVALID configuration (R100). -/
def State.immovable (s : State) (c : Chamber) : Bool := s.phase c = .outOfService && !s.configValid

/-- What a fault of a class does to the chamber (R90). -/
def State.moveOnFault (s : State) (c : Chamber) (k : FaultClass) : State :=
  if s.immovable c then s
  else
    match k with
    | .first => s.enterSafing c
    | .second => s.lockOut c
    | .later => s

/-- A chamber takes a fault (R90), with its notice (R91). -/
def State.takeFault (s : State) (c : Chamber) (f : FaultEntry) : State :=
  let k := s.classify c
  let s1 := s.modSeq c fun q => { q with faults := q.faults.write k f }
  (s1.moveOnFault c k).produce (.faultTaken c f k)

/-- A chamber takes a CROSS_CONFLICT once for each onset of the cross trip (R89). -/
def State.takeConflict (s : State) (c : Chamber) (f : FaultEntry) : State :=
  if (s.seq c).crossConflictTaken then s
  else (s.modSeq c fun q => { q with crossConflictTaken := true }).takeFault c f

/-- The answer to a status query leaves a device FAULTED that a working phase still needs (R96). -/
def State.queriedCheck (s : State) (d : Device) : State :=
  match d.chamber? with
  | none => s
  | some c =>
    match s.target? c d with
    | some t =>
      if (s.phase c).working && !s.reached d t && (s.dev d).position = .faulted then s.raiseStanding c d else s
    | none => s

end Sys2Proof.Machine
end

