-- ==== Sys2Proof/Machine/Arbiter.lean ====
section
/-! DEFINITION. The cross arbiter (04): matching and granting (R76, R77), the valve's acceptance (R78), the stop of an
exchange by its head (R79), the exchange over (R80), an unmatched claim (R81), faults of the cross valve (R83), the closing
watch (R84); and the taking of a fault report by its owner (R88, R89). -/

namespace Sys2Proof.Machine

/-! ### Releasing -/

/-- Release a chamber to LEVELLING when it is in CROSSING (R80). -/
def State.release (s : State) (c : Chamber) : State := if s.phase c = .crossing then s.enterPhase c .levelling else s

/-- Remove a chamber's claim and release the chamber (R81, R83). -/
def State.dropClaim (s : State) (c : Chamber) : State := (s.setClaim c none).release c

/-! ### The grant -/

/-- The two chamber levels as cross marks (R40, R77, R80). -/
def State.crossMarks (s : State) : Option (PerChamber Int) :=
  match s.lastLevel? (.chamber .A), s.lastLevel? (.chamber .B) with
  | some a, some b => some ⟨a, b⟩
  | _, _ => none

/-- The DRAIN chamber of two claims of opposite need (R76). -/
def drainOf (a b : Option CrossClaim) : Option Chamber :=
  match a.map (·.need), b.map (·.need) with
  | some Need.drain, some Need.fill => some .A
  | some Need.fill, some Need.drain => some .B
  | _, _ => none

/-- The head of a DRAIN chamber over the other is at least the cross minimum head (R76). -/
def State.headEnough (s : State) (drain : Chamber) : Bool :=
  match s.level? (.chamber drain), s.level? (.chamber drain.other) with
  | some a, some b => (s.cfg.crossMinimumHead : Int) ≤ a - b
  | _, _ => false

/-- XV is at rest, not FAULTED and confirmed CLOSED (R76). -/
def State.valveReady (s : State) : Bool :=
  (s.dev .xv).atRest && (s.dev .xv).position ≠ .faulted && s.confirmedClosed .xv

/-- The DRAIN chamber of a grant that is due (R76). -/
def State.grantDue? (s : State) : Option Chamber :=
  match drainOf s.cross.claims.a s.cross.claims.b with
  | some d => if s.cross.stage = .none && s.valveReady && s.headEnough d then some d else none
  | none => none

/-- The serial of a chamber's lockage record, 0 without one. -/
def State.serialOf (s : State) (c : Chamber) : Nat := ((s.seq c).lockage.map (·.serial)).getD 0

/-- The grant (R77). -/
def State.makeGrant (s : State) (drain : Chamber) : State :=
  let marks := s.crossMarks
  let s1 : State :=
    { s with
      cross :=
        { s.cross with
          grant := some ⟨drain, drain.other, .of s.serialOf⟩
          stage := .opening
          valveAccepted := false
          stopCounter := 0 } }
  let s2 := Chamber.all.foldl (fun s c => s.modLockage c fun l => { l with crossStart := marks }) s1
  s2.startRequest .xv .toOpen

/-! ### The exchange -/

/-- The level timer of a chamber in CROSSING starts (R59). -/
def State.startCrossTimer (s : State) (c : Chamber) : State :=
  if s.phase c = .crossing then
    s.modSeq c fun q => { q with levelTimer := some (s.now + seconds (s.cfg.chambers.get c).levellingLimit) }
  else s

/-- XV's START OPEN is accepted (R78). -/
def State.valveOpens (s : State) : State :=
  match s.cross.stage with
  | .opening =>
    let s1 : State :=
      { s with
        cross :=
          { s.cross with
            valveAccepted := true
            stage := .flowing
            claims := s.cross.claims.map fun k => k.map CrossClaim.stopped
            exchangeTimer := some (s.now + seconds s.cfg.crossExchangeLimit) } }
    Chamber.all.foldl State.startCrossTimer s1
  | .closing => { s with cross := { s.cross with valveAccepted := true } }
  | _ => s

/-- The head between the chambers is within the cross stop margin (R74, R79). -/
def State.headWithin (s : State) : Bool :=
  match s.level? (.chamber .A), s.level? (.chamber .B) with
  | some a, some b => (a - b).natAbs ≤ s.cfg.crossStopMargin
  | _, _ => false

/-- The arbiter's examination of a flowing exchange at a scan completion (R79). -/
def State.watchHead (s : State) : State :=
  if s.cross.stage = .flowing then
    let n := if s.headWithin then min 3 (s.cross.stopCounter + 1) else 0
    let s1 : State := { s with cross := { s.cross with stopCounter := n } }
    if n = 3 then s1.endExchange else s1
  else s

/-- Write the outcome of an exchange into a granted chamber's lockage record (R80): its marks when water may have passed,
the start marks taken back otherwise. A record whose serial has changed is not written. -/
def LockageRecord.crossOutcome (l : LockageRecord) (accepted : Bool) (serial : Nat) (marks : Option (PerChamber Int)) :
    LockageRecord :=
  if l.serial ≠ serial then l
  else if accepted then { l with crossEnd := marks, crossUsed := true }
  else { l with crossStart := none, crossUsed := false }

/-- The exchange is over (R80). -/
def State.exchangeOver (s : State) : State :=
  match s.cross.grant with
  | none => s
  | some g =>
    let marks := s.crossMarks
    let s1 := Chamber.all.foldl
      (fun s c => s.modLockage c fun l => l.crossOutcome s.cross.valveAccepted (g.serials.get c) marks) s
    let s2 : State :=
      { s1 with cross := { s1.cross with grant := none, stage := .none, stopCounter := 0, claims := .both none } }
    Chamber.all.foldl State.release s2

/-! ### Faults of the cross valve, and reports -/

/-- A fault of XV that is handed to both sequencers (R83, R89). -/
def State.takeXv (s : State) (k : FaultKind) (t : LockTime) (c : Chamber) : State :=
  if k = .crossConflict then s.takeConflict c ⟨k, some .xv, t⟩ else s.takeFault c ⟨k, some .xv, t⟩

/-- The arbiter takes a fault of XV by its parties (R83). -/
def State.valveFaulted (s : State) (k : FaultKind) (t : LockTime) : State :=
  if s.bothParties then
    let s1 := Chamber.all.foldl (fun s c => s.takeXv k t c) s
    if s1.cross.stage = .none then s1 else s1.exchangeOver
  else if s.isParty .A then s.dropClaim .A
  else if s.isParty .B then s.dropClaim .B
  else s

/-- A fault report reaches the block that takes it (R87, R88). The cross trip's own report tests the parties once for both
sequencers (R89, log 29). -/
def State.takeReport (s : State) : Report → State
  | .device (.gate c e) k t => s.takeFault c ⟨k, some (.gate c e), t⟩
  | .device (.sluice c e) k t => s.takeFault c ⟨k, some (.sluice c e), t⟩
  | .device .xv k t => s.valveFaulted k t
  | .chamber c f => s.takeFault c f
  | .crossTrip t =>
    if s.bothParties then Chamber.all.foldl (fun s c => s.takeXv .crossConflict t c) s else s

/-! ### The closing watch -/

/-- The closing watch asks XV to close (R84): the start-up sequence has ended under a VALID configuration, no exchange runs,
and XV is at rest, not FAULTED and not confirmed CLOSED. -/
def State.watchDue (s : State) : Bool :=
  s.start.stage = .ended && s.configValid && s.cross.stage = .none && (s.dev .xv).atRest &&
    (s.dev .xv).position ≠ .faulted && !s.confirmedClosed .xv

end Sys2Proof.Machine
end

