-- ==== Sys2Proof/Machine/AuthorityUnit.lean ====
section
/-! DEFINITION. The authority unit (11): gain, loss and hand-over of a chamber's holder (R188, R191), the releases (R190), the
silences (R193, R194), SEIZE (R192). -/

namespace Sys2Proof.Machine

def State.authority (s : State) (c : Chamber) : Authority := s.auth.get c

/-- Write a chamber's authority fields; a change is notified with its cause (R188, R195). -/
def State.changeAuthority (s : State) (c : Chamber) (a : Authority) (cause : AuthorityCause) : State :=
  if s.authority c = a then s
  else (s.setAuth c a).produce (.authorityChanged c (s.holder c) cause)

/-- The chamber has gained a holder: NO_HOLDER leaves the hold set (R66, R188). -/
def State.gained (s : State) (c : Chamber) : State := s.modSeq c fun q => { q with holds := q.holds.put .noHolder false }

/-- The chamber has lost its holder: outside IDLE and OUT_OF_SERVICE a hold order with NO_HOLDER follows (R188). -/
def State.lost (s : State) (c : Chamber) : State :=
  if s.phase c = .idle || s.phase c = .outOfService then s else s.holdOrder c .noHolder

/-- The holder becomes none and the pending claim with it (R188, R190, R194). -/
def State.loseHolder (s : State) (c : Chamber) (cause : AuthorityCause) : State :=
  (s.changeAuthority c ⟨none, none, false⟩ cause).lost c

/-- A link becomes the holder of a chamber that has none (R189). -/
def State.gainHolder (s : State) (c : Chamber) (o : Operator) (cause : AuthorityCause) : State :=
  (s.changeAuthority c ⟨some o, none, false⟩ cause).gained c

/-- A hand-over to the pending claimant (R191). -/
def State.handOver (s : State) (c : Chamber) (o : Operator) : State :=
  s.changeAuthority c ⟨some o, none, false⟩ .handOver

/-- The hand-over that a waiting release owes once none of the chamber's gates and sluices is moving (R191). -/
def State.handOver? (s : State) (c : Chamber) : Option State :=
  let a := s.authority c
  match a.pendingClaim with
  | some o => if a.releaseWaiting && !s.chamberMoving c then some (s.handOver c o) else none
  | none => none

/-- CLAIM from an operator (R189). -/
def State.claimBy (s : State) (c : Chamber) (o : Operator) : State :=
  let a := s.authority c
  match a.holder with
  | none => s.gainHolder c o .claim
  | some h =>
    if h = o || a.pendingClaim = some o then s
    else
      (s.changeAuthority c { a with pendingClaim := some o } .claim).produce (.claimPending c o)

/-- RELEASE from the holder (R190). Where it hands over at once, AUTHORITY_CHANGED carries the cause HAND_OVER (DESIGN CHOICE,
log 56). -/
def State.releaseByHolder (s : State) (c : Chamber) : State :=
  let a := s.authority c
  match a.pendingClaim with
  | none => s.loseHolder c .release
  | some o =>
    if a.releaseWaiting then s
    else if s.chamberMoving c then s.changeAuthority c { a with releaseWaiting := true } .release
    else s.handOver c o

/-- The pending claim is dropped; a waiting release then takes effect at once with no claim (R190, R194). The one notice carries the
cause of the event, CLAIMANT_SILENCE in R194, and not RELEASE (DESIGN CHOICE, log 62). -/
def State.dropPending (s : State) (c : Chamber) (cause : AuthorityCause) : State :=
  let a := s.authority c
  if a.releaseWaiting then s.loseHolder c cause else s.changeAuthority c { a with pendingClaim := none } cause

/-- RELEASE from an operator (R190): nothing for a link that is neither holder nor claimant. -/
def State.releaseBy? (s : State) (c : Chamber) (o : Operator) : Option State :=
  let a := s.authority c
  if a.holder = some o then some (s.releaseByHolder c)
  else if a.pendingClaim = some o then some (s.dropPending c .release)
  else none

/-- SEIZE gives a hold order (R192): the desk took the chamber from another holder, or from none, while a device was moving
or the chamber was in a sequencing phase. -/
def State.seizeHolds (s : State) (c : Chamber) : Bool :=
  s.holder c ≠ some .desk && (s.chamberMoving c || (s.phase c).sequencing)

/-- SEIZE (R192). -/
def State.seizeBy (s : State) (c : Chamber) : State :=
  let s1 := s.changeAuthority c ⟨some .desk, none, false⟩ .seize
  let s2 := if s.holder c = none then s1.gained c else s1
  if s.seizeHolds c then s2.holdOrder c .seized else s2

/-- The moment at which an operator's silence expires (R193, R194): never while no frame of the link has been received or
no block has been read. -/
def State.silenceEnd? (s : State) (o : Operator) : Option Nat :=
  if s.start.image = none then none
  else (s.port o.link).lastFrame.map fun t => t + seconds s.cfg.holderSilenceLimit

/-- An operator's silence has expired. -/
def State.silent (s : State) (o : Operator) : Bool :=
  match s.silenceEnd? o with
  | some t => t ≤ s.now
  | none => false

/-- The holder's silence expires (R193): the holder is lost, and a pending claim is granted at once; one AUTHORITY_CHANGED
carries the state after both steps. -/
def State.holderSilent (s : State) (c : Chamber) : State :=
  let a := s.authority c
  let s1 := (s.setAuth c ⟨none, none, false⟩).lost c
  let s2 := match a.pendingClaim with
    | some o => (s1.setAuth c ⟨some o, none, false⟩).gained c
    | none => s1
  s2.produce (.authorityChanged c a.holder .silence)

end Sys2Proof.Machine
end

