-- ==== Sys2Proof/Machine/Emergency.lean ====
section
/-! DEFINITION. Emergency handling (R132): join (R133), emergency start (R134), preemption (R135) with the restart order (R69). -/

namespace Sys2Proof.Machine

/-- The chamber lets the vessel join (R133): the state with the vessel taken, or nothing. -/
def State.join? (s : State) (c : Chamber) (v : Vessel) : Option State :=
  if (s.phase c).inPlanWindow && s.direction? c = some v.direction then
    match s.tryTake c v with
    | .taken s' => some s'
    | .failed _ => none
  else none

/-- The chamber is chosen for an emergency start (R134, R132). -/
def State.startsFor (s : State) (c : Chamber) (v : Vessel) : Bool :=
  s.start.stage = .ended && s.phase c = .idle && (s.holder c).isSome && (s.seq c).stepMode = .auto &&
    s.geometryFault c 0 v = none && 1 ≤ s.acct.free

/-- The emergency start (R134). -/
def State.emergencyStart? (s : State) (c : Chamber) (v : Vessel) : Option State :=
  if s.startsFor c v then some (s.enterForming c v.direction []) else none

/-- The phases in which a chamber may be preempted (R69, R135). -/
def preemptable : Phase → Bool
  | .forming | .turning | .preLevelling | .entryOpening => true
  | _ => false

/-- The free count once a lockage has given back its reservation (R135). -/
def State.freeWithout (s : State) (l : LockageRecord) : Nat :=
  if l.reservation = .none then s.acct.free else s.acct.release.free

/-- The chamber is preempted for the vessel (R135, R132). -/
def State.preemptsFor (s : State) (c : Chamber) (l : LockageRecord) (v : Vessel) : Bool :=
  s.start.stage = .ended && (s.holder c).isSome && preemptable (s.phase c) && l.direction = v.direction.other &&
    (s.traffic.planStacks.get c).length < planStackDepth &&
    !((s.planVessels l).map (·.cls)).contains .emergency && s.geometryFault c 0 v = none && 1 ≤ s.freeWithout l

/-- STOP requests for the chamber's devices whose entry is a START (R69). -/
def State.stopQueued (s : State) (c : Chamber) : State :=
  c.devices.foldl (fun s d => if (s.dev d).startQueued then s.stopRequest d else s) s

/-- The EMERGENCY_PREEMPT notice of a preemption (R135), from the state after the push. -/
def State.preemptNotice (s : State) (c : Chamber) (l : LockageRecord) (v : Vessel) : Produced :=
  .emergencyPreempt c v.direction v.handle v.mark l.direction l.startTime l.plan.length
    (s.traffic.planStacks.get c).length

/-- Preemption (R135): push, release, restart (R69). -/
def State.preempt (s : State) (c : Chamber) (l : LockageRecord) (v : Vessel) : State :=
  let s1 := (s.pushPlan c l).releaseReservation c
  let s2 := ((s1.clearStepWait c).stopQueued c).produce (s1.preemptNotice c l v)
  s2.enterForming c v.direction []

def State.preempt? (s : State) (c : Chamber) (v : Vessel) : Option State :=
  match (s.seq c).lockage with
  | some l => if s.preemptsFor c l v then some (s.preempt c l v) else none
  | none => none

/-- The three ways of placing an emergency vessel, in the order in which handling tries them (R132). -/
inductive Way where
  | join
  | start
  | preempt
  deriving DecidableEq, Repr

def Way.all : List Way := [.join, .start, .preempt]

/-- One way at one chamber (R133, R134, R135): the state it leads to, when its conditions hold. -/
def State.wayAt? (s : State) (v : Vessel) : Way → Chamber → Option State
  | .join, c => s.join? c v
  | .start, c => s.emergencyStart? c v
  | .preempt, c => s.preempt? c v

/-- Try one way at one chamber for the vessel of the handle, as it stands now (R132): it acts only on a WAITING EMERGENCY
vessel, so nothing follows once the vessel is placed. -/
def State.tryWay (w : Way) (h : Nat) (s : State) (c : Chamber) : State :=
  match s.vessel? h with
  | none => s
  | some v => if v.state = .waiting && v.cls = .emergency then (s.wayAt? v w c).getD s else s

/-- Emergency handling for one vessel (R132): the ways in their order, each at chamber A before chamber B, until one places the
vessel. A start or a preemption whose walk leaves the vessel WAITING stays made, and the handling goes on. -/
def State.handleEmergency (s : State) (h : Nat) : State :=
  Way.all.foldl (fun s w => Chamber.all.foldl (State.tryWay w h) s) s

/-- Emergency handling at the end of start-up (R132): the upper approach queue before the lower, each in its order. -/
def State.handleAllEmergencies (s : State) : State :=
  (s.traffic.queues.upper ++ s.traffic.queues.lower).foldl State.handleEmergency s

end Sys2Proof.Machine
end

