-- ==== Sys2Proof/Machine/Notices.lean ====
section
/-! DEFINITION. Forming the notices of an event from the state after it, and giving them to the links (R197, R198). -/

namespace Sys2Proof.Machine

/-- A deferred vessel as VESSEL_DEFERRED lists it (R120). -/
def State.deferredEntry? (s : State) (h : Nat) : Option DeferredEntry :=
  match s.vessel? h with
  | some v => v.deferral.map fun r => ⟨h, v.mark, s.priority v.cls, r⟩
  | none => none

/-- The deferred vessels of a queue, in queue order (R120). -/
def State.deferredOf (s : State) (e : End) : List DeferredEntry := (s.traffic.queues.get e).filterMap s.deferredEntry?

/-- The subject of a queue's notice (R120). -/
def queueSubject : End → Subject
  | .upper => .chamber .A
  | .lower => .chamber .B

/-- The validity and lost reason of a channel (R29, R33). -/
def Reading.validity : Reading → Validity
  | .valid _ => .valid
  | .lost r => .lost r

/-- A place of the level image as LEVEL_QUALITY shows it (R33). -/
def State.placeLevels (s : State) (p : Place) : PlaceLevels :=
  ⟨(s.levels.pairs.get p).state, (s.levels.channels.get p).one.reading.validity,
    (s.levels.channels.get p).two.reading.validity⟩

/-- The places of a LEVEL_QUALITY subject (R33). -/
def qualityPlaces : Subject → List Place
  | .chamber c => [.chamber c]
  | .lock => [.pound .upper, .pound .lower]
  | .cross => []

/-- A head as LAMP_FAILED shows it (R148). -/
def HeadRecord.view (h : HeadRecord) : HeadView :=
  ⟨h.required, h.shown, h.redDark, h.lamps.map (·.failed), h.lamps.map (·.stray)⟩

/-- The STARTED notice's data (R205). -/
def State.startedData (s : State) : NoticeData :=
  .started s.start.kind s.start.config s.charge.clock.isSet s.acct.period s.acct.journal.length s.acct.serial

/-- A produced notice with its data, taken from the state after the event (R197, log 10). -/
def State.noticeOf (s : State) : Produced → Notice
  | .phaseChanged c left =>
    ⟨.phaseChanged, .chamber c,
      .phaseChanged (s.phase c) left (s.seq c).resume ((s.seq c).lockage.map fun l => (l.serial, l.direction))⟩
  | .stepWait c d t => ⟨.stepWait, .chamber c, .stepWait (s.phase c) d t⟩
  | .claimPending c o => ⟨.claimPending, .chamber c, .claimPending o (s.phase c)⟩
  | .emergencyPreempt c d h m sd f n k =>
    ⟨.emergencyPreempt, .chamber c, .emergencyPreempt c d h m sd f n k⟩
  | .holdEntered c r => ⟨.holdEntered, .chamber c, .holdEntered (s.seq c).holds (s.seq c).resume r⟩
  | .faultTaken c f k => ⟨.faultRaised, .chamber c, .faultRaised f (some k) (some (s.phase c))⟩
  | .crossFaulted f => ⟨.faultRaised, .lock, .faultRaised f none none⟩
  | .lockedOut c =>
    ⟨.lockedOut, .chamber c,
      .lockedOut c (s.seq c).faults.first (s.seq c).faults.second (s.seq c).resume ((s.seq c).lockage.map (·.serial))⟩
  | .authorityChanged c before cause =>
    ⟨.authorityChanged, .chamber c, .authorityChanged (s.auth.get c) before cause⟩
  | .vesselDeferred e =>
    ⟨.vesselDeferred, queueSubject e, .vesselDeferred e (s.deferredOf e).length ((s.deferredOf e).take 16)⟩
  | .levelQuality x => ⟨.levelQuality, x, .levelQuality ((qualityPlaces x).map s.placeLevels)⟩
  | .lampFailed h l stray =>
    ⟨.lampFailed, .chamber h.chamber,
      .lampFailed h l stray ((PerChamber.get s.heads h.chamber).map (·.map HeadRecord.view))⟩
  | .clockSet before wasSet => ⟨.clockSet, .lock, .clockSet s.lockTime before wasSet⟩
  | .tariffSwitched v r t => ⟨.tariffSwitched, .lock, .tariffSwitched v r t⟩
  | .journalLow =>
    ⟨.journalLow, .lock,
      .journalLow s.acct.free s.acct.journal.length s.acct.reservations
        (s.acct.journal.head?.map fun r => (r.serial, r.period))⟩
  | .recordPosted n c p total =>
    ⟨.recordPosted, .lock, .recordPosted n c p total s.acct.journal.length s.acct.free⟩
  | .periodClosed a b t => ⟨.periodClosed, .lock, .periodClosed a b t⟩
  | .started => ⟨.started, .lock, s.startedData⟩

/-- VESSEL_DEFERRED for each queue whose vessels had a reason set in the event (R120). -/
def State.deferralNotices (s : State) : State :=
  [End.upper, End.lower].foldl (fun s e => if s.event.deferred.get e then s.produce (.vesselDeferred e) else s) s

/-- The notices of the event in joining order (R197). -/
def State.eventNotices (s : State) : List Notice :=
  s.event.produced.foldl (fun ns p => joinOrder (s.noticeOf p) ns) []

/-- The notices of the event join the queues of their links, and every free transmitter takes its next frame (R184,
R197). -/
def State.flush (s : State) : State :=
  let ns := s.eventNotices
  { s with links := s.links.map fun l p => (p.join (ns.filter fun n => s.routed n l)).transmit }

/-- The end of an event that changes nothing which another block reacts to (log 8): its notices are sent. -/
def State.finishQuiet (s : State) : State := s.deferralNotices.flush.rest

end Sys2Proof.Machine
end

