-- ==== Sys2Proof/Machine/Signals.lean ====
section
/-! DEFINITION. The signal driver (08): required aspects (R141, R142), lighting the lamps (R143), the lamp-current sample
(R144, R145), LAMP CHECK's clearing (R147). -/

namespace Sys2Proof.Machine

/-! ### Required aspects -/

/-- The required aspect of a chamber's head under its phase, its direction and the position of the gate at the head's end
(R141). -/
def aspectOf (p : Phase) (d : Option Direction) (gate : Position) (e : End) (side : Side) : Aspect :=
  match p, d, side with
  | .outOfService, _, _ => .doubleRed
  | .lockedOut, _, _ => .doubleRed
  | .entryOpening, some d, .outer => if e = d.entryEnd then .redGreen else .red
  | .entry, some d, .outer => if e = d.entryEnd && gate = .opened then .green else .red
  | .exitOpening, some d, .inner => if e = d.exitEnd then .redGreen else .red
  | .exit, some d, .inner => if e = d.exitEnd && gate = .opened then .green else .red
  | _, _, _ => .red

/-- The required aspect of a head (R141, R142): RED until the start-up sequence has ended. -/
def State.requiredAspect (s : State) (h : Head) : Aspect :=
  if s.start.stage = .ended then
    aspectOf (s.phase h.chamber) (s.direction? h.chamber) (s.dev (.gate h.chamber h.atEnd)).position h.atEnd h.side
  else .red

/-! ### Lighting -/

/-- The lamps commanded on for an aspect, by their failed latches (R143). -/
def lampsFor (a : Aspect) (failed : PerLamp Bool) : PerLamp Bool :=
  let redPart := !(failed.red1 && failed.red2)
  let red1 := !failed.red1
  let red2 := failed.red1 && !failed.red2
  match a with
  | .red => ⟨red1, red2, false⟩
  | .redGreen => ⟨red1, red2, redPart && !failed.green⟩
  | .green => if failed.green then ⟨red1, red2, false⟩ else ⟨false, false, true⟩
  | .doubleRed => ⟨!failed.red1, !failed.red2, false⟩
  | .dark => ⟨false, false, false⟩

/-- The shown aspect (R143). -/
def shownFor (a : Aspect) (failed : PerLamp Bool) : Aspect :=
  let noRed := failed.red1 && failed.red2
  match a with
  | .red => if noRed then .dark else .red
  | .redGreen => if noRed then .dark else if failed.green then .red else .redGreen
  | .green => if !failed.green then .green else if noRed then .dark else .red
  | .doubleRed => if noRed then .dark else if failed.red1 || failed.red2 then .red else .doubleRed
  | .dark => .dark

/-- Command a lamp on or off. A lamp newly lit counts its low and stray samples afresh (R144, R145). -/
def LampRecord.command (l : LampRecord) (on : Bool) : LampRecord :=
  if on && !l.commanded then { l with commanded := true, lowCount := 0, strayCount := 0 } else { l with commanded := on }

/-- The failed latches of a head. -/
def HeadRecord.failed (h : HeadRecord) : PerLamp Bool := h.lamps.map (·.failed)

/-- Light a head for a required aspect (R143). -/
def HeadRecord.light (h : HeadRecord) (a : Aspect) : HeadRecord :=
  let on := lampsFor a h.failed
  { required := a
    shown := shownFor a h.failed
    lamps := ⟨h.lamps.red1.command on.red1, h.lamps.red2.command on.red2, h.lamps.green.command on.green⟩ }

/-- Set every head from the state its chamber stands in (R141 to R143). -/
def State.lightHeads (s : State) : State :=
  { s with heads := PerHead.of fun h => (PerHead.get s.heads h).light (s.requiredAspect h) }

/-- A head while the part is held (R142): the part's logic drives no lamp, and no latch changes; what the masters see is the
fail-safe stage's RED. -/
def HeadRecord.failSafe (h : HeadRecord) : HeadRecord :=
  { required := .red, shown := .red, lamps := h.lamps.map fun l => l.command false }

/-- A lamp is lit: by its driver when it is commanded on (R140); while the part is held by the fail-safe output stage, which
lights red1 of every head (R142). -/
def State.lampLit (s : State) (h : Head) (l : LampName) : Bool :=
  if s.isHeld then l = .red1 else ((PerHead.get s.heads h).lamps.get l).commanded

/-! ### The lamp-current sample -/

/-- One sample of a lamp with its monitor (R144, R145). -/
def LampRecord.sample (l : LampRecord) (active : Bool) : LampRecord :=
  if l.commanded then
    if l.failed then { l with lowCount := 0, strayCount := 0 }
    else if active then { l with lowCount := 0, strayCount := 0 }
    else if l.lowCount = 2 then { l with failed := true, lowCount := 0, strayCount := 0 }
    else { l with lowCount := l.lowCount + 1, strayCount := 0 }
  else if active = l.stray then { l with lowCount := 0, strayCount := 0 }
  else if l.strayCount = 2 then { l with lowCount := 0, stray := active, strayCount := 0 }
  else { l with lowCount := 0, strayCount := l.strayCount + 1 }

/-- Every lamp of every head, in the order in which one sample takes them. -/
def lampPlaces : List (Head × LampName) :=
  Chamber.all.flatMap fun c => [End.upper, End.lower].flatMap fun e => [Side.outer, Side.inner].flatMap fun x =>
    [LampName.red1, .red2, .green].map fun l => (⟨c, e, x⟩, l)

/-- A lamp's record. -/
def State.lamp (s : State) (h : Head) (l : LampName) : LampRecord := (PerHead.get s.heads h).lamps.get l

/-- Every lamp sampled against its monitor (R144, R145). -/
def State.sampleLamps (s : State) (m : PerHead (PerLamp Bool)) : State :=
  { s with
    heads := PerHead.of fun h =>
      let r := PerHead.get s.heads h
      let x := PerHead.get m h
      { r with lamps := ⟨r.lamps.red1.sample x.red1, r.lamps.red2.sample x.red2, r.lamps.green.sample x.green⟩ } }

/-- A lamp is latched as failed between two states (R144). -/
def latchedNow (s t : State) (h : Head) (l : LampName) : Bool := !(s.lamp h l).failed && (t.lamp h l).failed

/-- A lamp's stray value changes between two states (R145). -/
def strayChanged (s t : State) (h : Head) (l : LampName) : Bool := (s.lamp h l).stray ≠ (t.lamp h l).stray

/-- The LAMP_FAILED notices of a sample that leads from `s` to `t` (R148). -/
def lampNotices (s t : State) : List Produced :=
  lampPlaces.filterMap fun x =>
    if latchedNow s t x.1 x.2 then some (.lampFailed x.1 x.2 false)
    else if strayChanged s t x.1 x.2 && (t.lamp x.1 x.2).stray then some (.lampFailed x.1 x.2 true)
    else none

/-- The moment of the next sample has come (R144). -/
def State.lampSampleDue (s : State) : Bool := s.nextLampSample ≤ s.now

/-- A whole sample with its notices; the next one falls 100 ms on (R144). -/
def State.lampSample (s : State) (m : PerHead (PerLamp Bool)) : State :=
  (lampNotices s (s.sampleLamps m)).foldl State.produce
    { s.sampleLamps m with nextLampSample := s.nextLampSample + lampSamplePeriod }

/-- LAMP CHECK on one lamp (R147): stray values and counts are kept. -/
def LampRecord.check (l : LampRecord) : LampRecord := { l with failed := false, lowCount := 0 }

/-- LAMP CHECK on every lamp; the heads are lit again at the end of the event (R147). -/
def State.checkLamps (s : State) : State :=
  { s with
    heads := PerHead.of fun h =>
      { PerHead.get s.heads h with lamps := (PerHead.get s.heads h).lamps.map LampRecord.check } }

end Sys2Proof.Machine
end

