-- ==== Sys2Proof/Machine/Reactions.lean ====
section
/-! DEFINITION. What the blocks do of themselves within an event, one reaction at a time until none is due (log 6), and the
end of an event: one examination of the drive queue (R10), the heads (R141), the notices (R197). -/

namespace Sys2Proof.Machine

/-! ### Single reactions: each answers the state it leads to, when it is due -/

/-- The next fault report is taken (R3, R87). -/
def State.reportStep? (s : State) : Option State :=
  match s.event.reports with
  | [] => none
  | r :: rs => some ((s.modEvent fun e => { e with reports := rs }).takeReport r)

/-- The census has ended (R204): the queries have been placed and no device has its query flag set. -/
def State.censusOver (s : State) : Bool :=
  s.start.stage = .census && s.start.queriesPlaced && Device.all.all fun d => !(s.dev d).queryFlag

/-- The stray closing of one device (R205). -/
def State.strayClose (s : State) (d : Device) : State :=
  if (s.dev d).position ≠ .faulted && !s.confirmedClosed d then s.startRequest d .toClose else s

/-- The devices of the stray closing (R205). -/
def strayDevices : List Device :=
  [.sluice .A .upper, .sluice .A .lower, .sluice .B .upper, .sluice .B .lower, .xv]

/-- The end of start-up (R205). -/
def State.endStartUp (s : State) : State :=
  let s1 := strayDevices.foldl State.strayClose s
  let s2 : State := { s1 with start := { s1.start with stage := .ended } }
  s2.handleAllEmergencies.produce .started

def State.startUpStep? (s : State) : Option State := if s.censusOver then some s.endStartUp else none

/-- XV has become confirmed CLOSED in this event: an exchange in CLOSING is over (R80). -/
def State.valveClosedStep? (s : State) : Option State :=
  if s.event.crossClosed then
    let s1 := s.modEvent fun e => { e with crossClosed := false }
    some (if s.cross.stage = .closing then s1.exchangeOver else s1)
  else none

/-- A reason of the hold set whose own event has come (R66): both sill beams are clear, or the governing head of the resume
phase has a usable red lamp again. -/
def State.reasonGone (s : State) (c : Chamber) : HoldReason → Bool
  | .sill => !s.beamBroken c .upper && !s.beamBroken c .lower
  | .signal =>
    match (s.seq c).resume, s.direction? c with
    | some p, some d => match governingHead c d p with
      | some h => !s.redDark h
      | none => false
    | _, _ => false
  | _ => false

/-- SILL or SIGNAL leaves the hold set (R66), in HOLD and in SAFING (log 16). -/
def State.reasonStep? (s : State) (c : Chamber) : Option State :=
  if s.phase c = .hold || s.phase c = .safing then
    if (s.seq c).holds.sill && s.reasonGone c .sill then
      some (s.modSeq c fun q => { q with holds := q.holds.put .sill false })
    else if (s.seq c).holds.signal && s.reasonGone c .signal then
      some (s.modSeq c fun q => { q with holds := q.holds.put .signal false })
    else none
  else none

/-- SAFING: its requests while they change a record (R93), else its end (R94; log 15). -/
def State.safingStep? (s : State) (c : Chamber) : Option State :=
  if s.phase c = .safing then
    if (s.safingRequests c).drive ≠ s.drive then some (s.safingRequests c)
    else if s.safingEnds c then some (s.endSafing c)
    else none
  else none

/-- Level reached becomes yes (R50, R55). -/
def State.onsetStep? (s : State) (c : Chamber) : Option State := if s.onsetDue c then some (s.levelOnset c) else none

/-- A grant (R76, R77). -/
def State.grantStep? (s : State) : Option State := s.grantDue?.map s.makeGrant

/-- The closing watch (R84). -/
def State.watchStep? (s : State) : Option State := if s.watchDue then some (s.startRequest .xv .toClose) else none

/-- The first reaction that is due, in the model's order (log 6). -/
def State.react? (s : State) : Option State :=
  [s.reportStep?, s.startUpStep?, s.handOver? .A, s.handOver? .B, s.valveClosedStep?, s.reasonStep? .A, s.reasonStep? .B,
    s.safingStep? .A, s.safingStep? .B, s.onsetStep? .A, s.onsetStep? .B, s.workTest? .A, s.workTest? .B, s.grantStep?,
    s.watchStep?].findSome? id

/-- Reactions until none is due. The bound is far beyond the number that any event can bring (log 6). -/
def State.settleFor : Nat → State → State
  | 0, s => s
  | n + 1, s =>
    match s.react? with
    | some s' => settleFor n s'
    | none => s

def reactionBound : Nat := 256

def State.settle (s : State) : State := s.settleFor reactionBound

/-- The end of an event: the reactions, one examination of the drive queue (R10, log 7), the heads (R141), the notices. What an event
has queued for a free line is therefore on it before the next event of the same moment (DESIGN CHOICE): the STOP of a travel deadline
expiry before a DONE (R14, log 60), and XV's START OPEN of a grant before the expiry of a claim's wait timer (R81, log 63). -/
def State.finish (s : State) : State := s.settle.dispatch.lightHeads.finishQuiet

end Sys2Proof.Machine
end

