-- ==== Sys2Proof/Machine/Requests.lean ====
section
/-! DEFINITION. Taking a request at a link port (R183, R184) and the checks that come before a command's own (R185, R186). -/

namespace Sys2Proof

/-- The toll office's link alone (R186). -/
def Link.isToll (l : Link) : Bool := l = .toll

/-- The desk's or the centre's link (R186). -/
def Link.operates (l : Link) : Bool := l ≠ .toll

end Sys2Proof

namespace Sys2Proof.Machine

/-- What a command answers: the result with its data, the state it leaves, and whether other blocks react to it (log 8). -/
structure Answer where
  result : Result
  data : ReplyData
  state : State
  settles : Bool
  deriving DecidableEq, Repr

/-- A refusal changes no state and carries only its code (R185). -/
def State.refuse (s : State) (r : Result) : Answer := ⟨r, .none, s, false⟩

/-- OK after an action that other blocks react to. -/
def State.accept (s : State) (d : ReplyData := .none) : Answer := ⟨.ok, d, s, true⟩

/-- OK after an action that no other block reacts to. -/
def State.acceptQuiet (s : State) (d : ReplyData := .none) : Answer := ⟨.ok, d, s, false⟩

/-- One check: the rest when it holds, its refusal otherwise (R185). -/
def State.check (s : State) (ok : Bool) (r : Result) (rest : Answer) : Answer := if ok then rest else s.refuse r

/-- Steps 2 and 3 of R185 for a chamber command: permitted from the operators' links, a chamber named, its holder's link. -/
def State.asHolder (s : State) (f : Frame) (c : Option Chamber) (body : Chamber → Answer) : Answer :=
  match f.link.operator? with
  | none => s.refuse .notPermitted
  | some o =>
    match c with
    | none => s.refuse .badValue
    | some c => if s.holder c = some o then body c else s.refuse .notHolder

/-- The reply takes the reply slot, and the event ends (R184). -/
def Answer.place (a : Answer) (f : Frame) (code : Byte) : State :=
  let s := a.state.modPort f.link fun p => { p with reply := some ⟨replyKind code, f.tag, a.result, a.data⟩ }
  if a.settles then s.finish else s.finishQuiet

/-- A valid frame renews its link's presence: the moment is that of its last check byte (R183). -/
def State.hearAt (s : State) (l : Link) (moment : Nat) : State := s.modPort l fun p => p.received moment

/-- A valid frame whose last check byte comes now. -/
def State.hear (s : State) (l : Link) : State := s.hearAt l s.now

/-- The BUSY_LINK reply in the busy slot (R184). -/
def State.answerBusy (s : State) (l : Link) (code tag : Byte) : State :=
  (s.modPort l fun p => { p with busy := some ⟨replyKind code, tag, .busyLink, .none⟩ }).finishQuiet

/-- A valid frame that has been heard meets its port's slots (R184): it is taken while the reply slot is empty, else answered
BUSY_LINK while the busy slot is empty, else only heard. -/
def State.meetSlots (s : State) (f : Frame) (code : Byte) (body : State → Answer) : State :=
  match (s.port f.link).reply, (s.port f.link).busy with
  | none, _ => (body s).place f code
  | some _, none => s.answerBusy f.link code f.tag
  | some _, some _ => s.finishQuiet

/-- A valid frame at its port (R183, R184). -/
def State.takeFrame (s : State) (f : Frame) (code : Byte) (body : State → Answer) : State :=
  (s.hear f.link).meetSlots f code body

/-- A request command (R184): no frame is received while the part is held (R201). -/
def State.request (s : State) (dt : Nat) (f : Frame) (code : Byte) (body : State → Answer) : Outcome :=
  let s1 := s.beginEvent dt
  .next (if s1.isHeld then s1.rest else s1.takeFrame f code body)

/-- An event of the field or of the part's own timers: nothing happens while the part is held (R201). -/
def State.event? (s : State) (dt : Nat) (body : State → State) : Outcome :=
  let s1 := s.beginEvent dt
  .next (if s1.isHeld then s1.rest else body s1)

/-- Such an event while its condition holds; it finds nothing to act on otherwise (log 5). -/
def State.when (s : State) (due : Bool) (body : State) : State := if due then body else s.rest

end Sys2Proof.Machine
end

