-- ==== Sys2Proof/Machine/AccountCommands.lean ====
section
/-! DEFINITION. The toll office's commands (10): BLOCK and UNBLOCK ACCOUNT (R169), PEEK and TAKE RECORD (R175), CLOSE PERIOD
(R177), READ PERIOD IMAGE (R178); and READ ACCOUNT (R170). -/

namespace Sys2Proof.Machine

def blockAccountBody (f : Frame) (n : Nat) (s : State) : Answer :=
  s.check f.link.isToll .notPermitted
    (s.check (f.lengthMatches && natIn 1 255 n) .badValue (s.modAcct fun u => u.setBlocked n true).acceptQuiet)

/-- BLOCK ACCOUNT (R169). -/
def execBlockAccount (dt : Nat) (f : Frame) (n : Nat) (s : State) : Outcome := s.request dt f 26 (blockAccountBody f n)

def unblockAccountBody (f : Frame) (n : Nat) (s : State) : Answer :=
  s.check f.link.isToll .notPermitted
    (s.check (f.lengthMatches && n ≤ 255) .badValue (s.modAcct fun u => u.setBlocked n false).acceptQuiet)

/-- UNBLOCK ACCOUNT (R169). -/
def execUnblockAccount (dt : Nat) (f : Frame) (n : Nat) (s : State) : Outcome := s.request dt f 27 (unblockAccountBody f n)

def peekRecordBody (f : Frame) (s : State) : Answer :=
  s.check f.link.isToll .notPermitted
    (s.check f.lengthMatches .badValue
      (match s.acct.journal with
      | [] => s.refuse .empty
      | r :: rs => s.acceptQuiet (.record (recordBytes r) (rs.length + 1))))

/-- PEEK RECORD (R175). -/
def execPeekRecord (dt : Nat) (f : Frame) (s : State) : Outcome := s.request dt f 28 (peekRecordBody f)

def takeRecordBody (f : Frame) (expected : Option Nat) (s : State) : Answer :=
  s.check f.link.isToll .notPermitted
    (s.check f.lengthMatches .badValue
      (match s.acct.journal with
      | [] => s.refuse .empty
      | r :: rs =>
        s.check (expected = none || expected = some r.serial) .condition
          ((s.modAcct fun u => { u with journal := rs }).acceptQuiet (.record (recordBytes r) rs.length))))

/-- TAKE RECORD (R175). -/
def execTakeRecord (dt : Nat) (f : Frame) (expected : Option Nat) (s : State) : Outcome :=
  s.request dt f 29 (takeRecordBody f expected)

/-- A period close with its notice (R177). -/
def State.closePeriod (s : State) : State :=
  (s.modAcct fun u => u.close s.lockTime s.charge.clock.isSet).produce
    (.periodClosed s.acct.period (nextPeriod s.acct.period) s.lockTime)

def closePeriodBody (f : Frame) (s : State) : Answer :=
  s.check f.link.isToll .notPermitted
    (s.check f.lengthMatches .badValue (s.closePeriod.acceptQuiet (.closedPeriod s.acct.period)))

/-- CLOSE PERIOD (R177). -/
def execClosePeriod (dt : Nat) (f : Frame) (s : State) : Outcome := s.request dt f 30 (closePeriodBody f)

def readPeriodImageBody (f : Frame) (n : Nat) (s : State) : Answer :=
  s.check f.link.isToll .notPermitted
    (s.check (f.lengthMatches && n ≤ 255) .badValue
      (match s.acct.image.contents with
      | none => s.refuse .empty
      | some i =>
        s.acceptQuiet (.periodEntry (i.entries.getD n ⟨0, false, 0⟩) s.acct.image.period i.closeTime i.clockSet)))

/-- READ PERIOD IMAGE (R178). -/
def execReadPeriodImage (dt : Nat) (f : Frame) (n : Nat) (s : State) : Outcome :=
  s.request dt f 31 (readPeriodImageBody f n)

def readAccountBody (f : Frame) (n : Nat) (s : State) : Answer :=
  s.check (f.lengthMatches && n ≤ 255) .badValue (s.acceptQuiet (.account (s.account n) s.acct.period))

/-- READ ACCOUNT (R170). -/
def execReadAccount (dt : Nat) (f : Frame) (n : Nat) (s : State) : Outcome := s.request dt f 36 (readAccountBody f n)

end Sys2Proof.Machine
end

