-- ==== Sys2Proof/Machine/AuthorityCommands.lean ====
section
/-! DEFINITION. CLAIM, RELEASE, PRESENT, SEIZE and the two silences (R187, R189 to R194). -/

namespace Sys2Proof.Machine

/-- OK with the chamber's holder and pending claim after the event (R189). -/
def State.acceptClaim (s : State) (c : Chamber) : Answer :=
  s.accept (.claimed (s.authority c).holder (s.authority c).pendingClaim)

/-- OK with the chamber's authority state after the event (R190, R192). -/
def State.acceptAuthority (s : State) (c : Chamber) : Answer := s.accept (.authority (s.authority c))

def claimBody (f : Frame) (c : Option Chamber) (s : State) : Answer :=
  match f.link.operator?, c with
  | none, _ => s.refuse .notPermitted
  | some _, none => s.refuse .badValue
  | some o, some c => s.check f.lengthMatches .badValue ((s.claimBy c o).acceptClaim c)

/-- CLAIM (R189). -/
def execClaim (dt : Nat) (f : Frame) (c : Option Chamber) (s : State) : Outcome := s.request dt f 1 (claimBody f c)

def releaseBody (f : Frame) (c : Option Chamber) (s : State) : Answer :=
  match f.link.operator?, c with
  | none, _ => s.refuse .notPermitted
  | some _, none => s.refuse .badValue
  | some o, some c =>
    match s.releaseBy? c o with
    | none => s.refuse .notHolder
    | some s' => s.check f.lengthMatches .badValue (s'.acceptAuthority c)

/-- RELEASE (R190). -/
def execRelease (dt : Nat) (f : Frame) (c : Option Chamber) (s : State) : Outcome := s.request dt f 2 (releaseBody f c)

def presentBody (f : Frame) (s : State) : Answer :=
  s.check f.link.operates .notPermitted
    (s.check f.lengthMatches .badValue (s.acceptQuiet (.presence f.link s.auth)))

/-- PRESENT (R187). -/
def execPresent (dt : Nat) (f : Frame) (s : State) : Outcome := s.request dt f 3 (presentBody f)

def seizeBody (f : Frame) (c : Option Chamber) (s : State) : Answer :=
  s.check (f.link = .desk) .notPermitted
    (match c with
    | none => s.refuse .badValue
    | some c => s.check f.lengthMatches .badValue ((s.seizeBy c).acceptAuthority c))

/-- SEIZE (R192). -/
def execSeize (dt : Nat) (f : Frame) (c : Option Chamber) (s : State) : Outcome := s.request dt f 4 (seizeBody f c)

/-- The holder's silence of a chamber is due (R193). -/
def State.holderSilenceDue (s : State) (c : Chamber) : Bool :=
  match s.holder c with
  | some o => s.silent o
  | none => false

/-- HOLDER_SILENCE (R193). -/
def execHolderSilence (dt : Nat) (c : Chamber) (s : State) : Outcome :=
  s.event? dt fun s => s.when (s.holderSilenceDue c) (s.holderSilent c).finish

/-- The claimant's silence of a chamber is due (R194). -/
def State.claimantSilenceDue (s : State) (c : Chamber) : Bool :=
  match (s.authority c).pendingClaim with
  | some o => s.silent o
  | none => false

/-- CLAIMANT_SILENCE (R194). -/
def execClaimantSilence (dt : Nat) (c : Chamber) (s : State) : Outcome :=
  s.event? dt fun s => s.when (s.claimantSilenceDue c) (s.dropPending c .claimantSilence).finish

end Sys2Proof.Machine
end

