-- ==== Sys2Proof/Machine/DriveEvents.lean ====
section
/-! DEFINITION. The events of the drive line and of the DONE lines (01): answers (R11 to R13, R15), DONE (R4, R14), travel
deadlines (R16), dead times (R20). -/

namespace Sys2Proof.Machine

/-- Stop a closing gate whose sill beam is found broken and report the break (R21). -/
def State.sillBreak (s : State) (c : Chamber) (e : End) : State :=
  let s1 := if (s.dev (.gate c e)).outstanding = some (.move .toClose) then s.stopRequest (.gate c e) else s
  s1.holdOrder c .sill

/-- A gate is being closed, or stopped in its closing, and its DONE is awaited (R21). -/
def State.gateClosing (s : State) (c : Chamber) (e : End) : Bool :=
  (s.dev (.gate c e)).position = .closing && (s.dev (.gate c e)).awaitingDone

/-- The level timer starts at the first acceptance of the visit's sluice OPEN (R59). -/
def State.startLevelTimer (s : State) (c : Chamber) (e : End) : State :=
  if (s.seq c).timerDue && (s.direction? c).bind (levellingEnd (s.phase c)) = some e then
    s.modSeq c fun q =>
      { q with timerDue := false, levelTimer := some (s.now + seconds (s.cfg.chambers.get c).levellingLimit) }
  else s

/-- What follows the acceptance of a START: the beam found broken (R21), the level timer (R59), the exchange (R78). -/
def State.afterAccept (s : State) : Device → Target → State
  | .gate c e, .toClose => if s.beamBroken c e && s.gateClosing c e then s.sillBreak c e else s
  | .sluice c e, .toOpen => s.startLevelTimer c e
  | .xv, .toOpen => s.valveOpens
  | _, _ => s

/-- The effect of a valid answer to the transaction on the line (R12, R13, R15). A query's answer that leaves its device
FAULTED is checked under R96. -/
def State.answered (s : State) (d : Device) (k : Task) (a : DriveAnswer) : State :=
  match k, a with
  | .start t, .accept => (s.freeLine.startAccepted d t).afterAccept d t
  | .start _, .reject => s.freeLine.startRejected d
  | .stop, .accept => s.freeLine.stopAccepted d
  | .stop, .reject => s.freeLine.stopFailed d .driveRefused
  | .status, .status e o g =>
    let s1 := s.freeLine.statusApplied d e o g
    if (s.dev d).queryFlag && (s.dev d).position = .faulted then s1.queriedCheck d else s1
  | _, _ => s

/-- An answer is of the kind that a transaction expects (R11). -/
def DriveAnswer.fits : DriveAnswer → Task → Bool
  | .status _ _ _, .status => true
  | .accept, .start _ | .reject, .start _ | .accept, .stop | .reject, .stop => true
  | _, _ => false

/-- An answer arrives from a drive (R11): a valid one ends the transaction, any other is discarded and the wait goes on. -/
def State.driveAnswer (s : State) (address : Nat) (want : Task → Bool) (a : DriveAnswer) : State :=
  match s.answers? address with
  | some (d, k) => s.when (want k && a.fits k) (s.answered d k a).finish
  | none => s.rest

def acceptOr (accept : Bool) : DriveAnswer := if accept then .accept else .reject

def Task.isStart : Task → Bool
  | .start _ => true
  | _ => false

/-- START_ANSWER (R12). -/
def execStartAnswer (dt address : Nat) (accept : Bool) (s : State) : Outcome :=
  s.event? dt fun s => s.driveAnswer address Task.isStart (acceptOr accept)

/-- STOP_ANSWER (R13). -/
def execStopAnswer (dt address : Nat) (accept : Bool) (s : State) : Outcome :=
  s.event? dt fun s => s.driveAnswer address (· = .stop) (acceptOr accept)

/-- STATUS_REPLY (R15). -/
def execStatusReply (dt address : Nat) (e : EndPosition) (overload disagreement : Bool) (s : State) : Outcome :=
  s.event? dt fun s => s.driveAnswer address (· = .status) (.status e overload disagreement)

/-- The effect of no valid answer (R12, R13, R15). -/
def State.unanswered (s : State) (d : Device) : Task → State
  | .start _ => s.freeLine.startUnanswered d
  | .stop => s.freeLine.stopFailed d .noResponse
  | .status =>
    let s1 := s.freeLine.statusUnanswered d
    if (s.dev d).queryFlag && (s.dev d).position = .faulted then s1.queriedCheck d else s1

/-- The device whose transaction has waited 300 ms (R11). -/
def State.overdue? (s : State) : Option (Device × Task) :=
  match s.drive.sentAt, s.lineDevice with
  | some t, some d => if t + driveAcceptLimit ≤ s.now then (s.dev d).onLine.map fun k => (d, k) else none
  | _, _ => none

/-- DRIVE_ANSWER_TIMEOUT (R11). -/
def execDriveAnswerTimeout (dt : Nat) (s : State) : Outcome :=
  s.event? dt fun s =>
    match s.overdue? with
    | some (d, k) => (s.unanswered d k).finish
    | none => s.rest

/-- The answer that the bytes of a frame give to the transaction on the line (R11). -/
def State.answerIn? (s : State) (bytes : List Byte) : Option (Nat × DriveAnswer) :=
  match s.lineDevice with
  | some d =>
    let address := s.cfg.addresses.get d
    ((s.dev d).onLine.bind fun k => driveAnswerOf address k bytes).map fun a => (address, a)
  | none => none

/-- DRIVE_FRAME_DISCARDED (R11): a frame that is no valid answer changes nothing; bytes that are one are that answer
(log 33). -/
def execDriveFrameDiscarded (dt : Nat) (bytes : List Byte) (s : State) : Outcome :=
  s.event? dt fun s =>
    match s.answerIn? bytes with
    | some (address, a) => s.driveAnswer address (fun _ => true) a
    | none => s.rest

/-- Write the filtered state of a DONE input (R4). -/
def State.setDone (s : State) (d : Device) (v : Filtered) : State :=
  { s with
    drive :=
      { s.drive with
        dones := s.drive.dones.set d v
        turned := { s.drive.turned with dones := s.drive.turned.dones.set d s.now } } }

/-- The filtered state of a DONE input may change now (R4). -/
def State.doneTurns (s : State) (d : Device) : Bool := s.thirdSample (s.drive.turned.dones.get d)

/-- A DONE event is taken while the device awaits DONE and none of its transactions is on the line (R14). -/
def State.takesDone (s : State) (d : Device) : Bool := (s.dev d).awaitingDone && (s.dev d).onLine = none

/-- DONE_EVENT (R4, R14): the filtered input changes from INACTIVE to ACTIVE. -/
def execDoneEvent (dt : Nat) (d : Device) (s : State) : Outcome :=
  s.event? dt fun s =>
    s.when (s.drive.dones.get d = .inactive && s.doneTurns d)
      (if s.takesDone d then ((s.setDone d .active).doneTaken d).finish else (s.setDone d .active).finishQuiet)

/-- The filtered state that a changed input takes. -/
def filteredOf (active : Bool) : Filtered := if active then .active else .inactive

/-- DONE_INPUT_CHANGE (R4): a change that is not a DONE event. -/
def execDoneInputChange (dt : Nat) (d : Device) (active : Bool) (s : State) : Outcome :=
  s.event? dt fun s =>
    s.when (s.drive.dones.get d ≠ filteredOf active && !(active && s.drive.dones.get d = .inactive) && s.doneTurns d)
      (s.setDone d (filteredOf active)).finishQuiet

/-- A device's travel deadline has come. -/
def State.deadlineDue (s : State) (d : Device) : Bool :=
  match (s.dev d).travelDeadline with
  | some t => t ≤ s.now
  | none => false

/-- TRAVEL_DEADLINE_EXPIRY (R16). On a free line the STOP goes out in this event (R10), so a DONE of the same moment that comes after
it finds no STOP entry to take, as R14 would have it (DESIGN CHOICE, log 60). -/
def execTravelDeadlineExpiry (dt : Nat) (d : Device) (s : State) : Outcome :=
  s.event? dt fun s => s.when (s.deadlineDue d) (s.travelExpired d).finish

/-- DEAD_TIME_EXPIRY (R20): a sluice's queued START OPEN has waited out its dead time, and the arbiter examines its queue. -/
def execDeadTimeExpiry (dt : Nat) (c : Chamber) (e : End) (s : State) : Outcome :=
  s.event? dt fun s =>
    s.when ((s.dev (.sluice c e)).queuedStart .toOpen && s.deadTimePassed c e) s.dispatch.finishQuiet

end Sys2Proof.Machine
end

