-- ==== Sys2Proof/Machine/InputEvents.lean ====
section
/-! DEFINITION. The events of the closed-limit inputs, the sill beams and the two kinds of trip (R4, R21 to R24, R66, R89). -/

namespace Sys2Proof.Machine

/-! ### The conditions of the trips -/

/-- The limit of a device reads INACTIVE. -/
def State.released (s : State) (d : Device) : Bool := s.drive.limits.get d = .inactive

/-- A device at an end of a chamber shows its limit released (R23). -/
def State.endReleased (s : State) (c : Chamber) (e : End) : Bool := s.released (.gate c e) || s.released (.sluice c e)

/-- The condition of a chamber's limit trip (R23). -/
def State.limitConflict (s : State) (c : Chamber) : Bool := s.endReleased c .upper && s.endReleased c .lower

/-- The condition of the cross trip (R24). -/
def State.crossConflict (s : State) : Bool :=
  s.released .xv && Chamber.all.any fun c => c.devices.any s.released

/-- The first 20 ms sample of the inputs at or after a moment: the samples follow the release (log 59). -/
def State.sampleAt (s : State) (moment : Nat) : Nat :=
  s.samplesFrom + inputSamplePeriod * max 1 ((moment - s.samplesFrom + (inputSamplePeriod - 1)) / inputSamplePeriod)

/-- Three consecutive samples have found the trip's condition as it stands (R23, R24). -/
def State.sampledThrice (s : State) (t : Trip) : Bool := s.sampleAt t.since + 2 * inputSamplePeriod ≤ s.now

/-- A trip that is enabled and armed fires when its condition has held on three consecutive samples (R23, R24). -/
def State.tripFires (s : State) (t : Trip) (holds : Bool) : Bool := t.enabled && t.armed && holds && s.sampledThrice t

/-- A trip that has fired re-arms when its condition has failed on three consecutive samples (R23, R24). -/
def State.tripRearms (s : State) (t : Trip) (holds : Bool) : Bool := t.enabled && !t.armed && !holds && s.sampledThrice t

/-- When a trip's condition changes, the samples from that moment on find it as it stands (log 59). -/
def Trip.follow (t : Trip) (now : Nat) (changed : Bool) : Trip := if changed then { t with since := max t.since now } else t

/-- The trips follow their conditions from the state before a change of an input (R23, R24). -/
def State.followTrips (s before : State) : State :=
  { s with
    drive :=
      { s.drive with
        limitTrips := .of fun c => (s.drive.limitTrips.get c).follow s.now (s.limitConflict c != before.limitConflict c)
        crossTrip := s.drive.crossTrip.follow s.now (s.crossConflict != before.crossConflict) } }

/-! ### Limits -/

/-- A filtered limit takes a new value, and the trips follow it; a release is watched under R22. -/
def State.limitChanged (s : State) (d : Device) (v : Filtered) : State :=
  let s1 := (s.setLimit d v).followTrips s
  if v = .inactive then s1.uncommandedCheck d else s1

/-- LIMIT_INPUT_CHANGE (R4, R22). -/
def execLimitInputChange (dt : Nat) (d : Device) (active : Bool) (s : State) : Outcome :=
  s.event? dt fun s =>
    s.when (s.drive.limits.get d ≠ filteredOf active && s.thirdSample (s.drive.turned.limits.get d))
      (s.limitChanged d (filteredOf active)).finish

/-! ### Sill beams -/

/-- Write the filtered state of a sill beam (R4). -/
def State.setBeam (s : State) (c : Chamber) (e : End) (v : Filtered) : State :=
  { s with
    drive :=
      { s.drive with
        beams := s.drive.beams.set c ((s.drive.beams.get c).set e v)
        turned :=
          { s.drive.turned with
            beams := s.drive.turned.beams.set c ((s.drive.turned.beams.get c).set e s.now) } } }

/-- The filtered state of a sill beam may change now (R4). -/
def State.beamTurns (s : State) (c : Chamber) (e : End) : Bool := s.thirdSample ((s.drive.turned.beams.get c).get e)

def State.beam (s : State) (c : Chamber) (e : End) : Filtered := (s.drive.beams.get c).get e

/-- SILL_BEAM_BREAK (R21). -/
def execSillBeamBreak (dt : Nat) (c : Chamber) (e : End) (s : State) : Outcome :=
  s.event? dt fun s =>
    s.when (s.beam c e ≠ .inactive && s.beamTurns c e)
      (if s.gateClosing c e then ((s.setBeam c e .inactive).sillBreak c e).finish else (s.setBeam c e .inactive).finish)

/-- SILL_BEAM_CLEAR (R66, R21). -/
def execSillBeamClear (dt : Nat) (c : Chamber) (e : End) (s : State) : Outcome :=
  s.event? dt fun s => s.when (s.beam c e ≠ .active && s.beamTurns c e) (s.setBeam c e .active).finish

/-! ### Trips -/

/-- Arm a chamber's limit trip, or note that it has fired. -/
def State.armLimitTrip (s : State) (c : Chamber) (armed : Bool) : State :=
  { s with drive := { s.drive with limitTrips := s.drive.limitTrips.set c { s.drive.limitTrips.get c with armed } } }

/-- LIMIT_CONFLICT (R23). -/
def execLimitConflict (dt : Nat) (c : Chamber) (s : State) : Outcome :=
  s.event? dt fun s =>
    s.when (s.tripFires (s.drive.limitTrips.get c) (s.limitConflict c))
      ((s.armLimitTrip c false).raise c .limitConflict none).finish

/-- LIMIT_CONFLICT_REARM (R23). -/
def execLimitConflictRearm (dt : Nat) (c : Chamber) (s : State) : Outcome :=
  s.event? dt fun s =>
    s.when (s.tripRearms (s.drive.limitTrips.get c) (s.limitConflict c)) (s.armLimitTrip c true).finishQuiet

/-- Arm the cross trip, or note that it has fired. -/
def State.armCrossTrip (s : State) (armed : Bool) : State :=
  { s with drive := { s.drive with crossTrip := { s.drive.crossTrip with armed } } }

/-- A CROSS_CONFLICT that finds XV not FAULTED yet stands until the desk acknowledges it (R101; log 61). -/
def State.keepConflict (s : State) : State :=
  { s with drive := { s.drive with conflictKept := s.drive.conflictKept || decide ((s.dev .xv).position ≠ .faulted) } }

/-- CROSS_CONFLICT (R24): the trip's own report goes before the arbiter's hand-over of XV's fault (log 29). -/
def execCrossConflict (dt : Nat) (s : State) : Outcome :=
  s.event? dt fun s =>
    s.when (s.tripFires s.drive.crossTrip s.crossConflict)
      (((s.armCrossTrip false).keepConflict.report (.crossTrip s.lockTime)).faultDevice .xv .crossConflict).finish

/-- CROSS_CONFLICT_REARM (R24, R89): the cross conflict taken flags clear. -/
def execCrossConflictRearm (dt : Nat) (s : State) : Outcome :=
  s.event? dt fun s =>
    s.when (s.tripRearms s.drive.crossTrip s.crossConflict)
      ({ s.armCrossTrip true with seqs := s.seqs.map fun q => { q with crossConflictTaken := false } } :
        State).finishQuiet

end Sys2Proof.Machine
end

