-- ==== Sys2Proof/Machine/LampEvents.lean ====
section
/-! DEFINITION. The lamp-current sample in its three rows (R144, R145): all three are one sample of all 24 lamps (log 34),
taken once its moment has come (log 51). -/

namespace Sys2Proof.Machine

/-- A sample reaches a latch or changes a stray value somewhere. -/
def State.sampleTells (s : State) (m : PerHead (PerLamp Bool)) : Bool :=
  lampPlaces.any fun x => latchedNow s (s.sampleLamps m) x.1 x.2 || strayChanged s (s.sampleLamps m) x.1 x.2

/-- One lamp-current sample: a latch re-lights its head, and the sequencers are told of a red-dark head (R144, R146). -/
def State.sampleEvent (s : State) (m : PerHead (PerLamp Bool)) : State :=
  if s.sampleTells m then (s.lampSample m).finish else (s.lampSample m).finishQuiet

/-- LAMP_LATCH (R144): a sample at which the named lamp is latched as failed. -/
def execLampLatch (dt : Nat) (h : Head) (l : LampName) (m : PerHead (PerLamp Bool)) (s : State) : Outcome :=
  s.event? dt fun s => s.when (s.lampSampleDue && latchedNow s (s.sampleLamps m) h l) (s.sampleEvent m)

/-- LAMP_STRAY (R145): a sample at which the named lamp's stray value changes. -/
def execLampStray (dt : Nat) (h : Head) (l : LampName) (m : PerHead (PerLamp Bool)) (s : State) : Outcome :=
  s.event? dt fun s => s.when (s.lampSampleDue && strayChanged s (s.sampleLamps m) h l) (s.sampleEvent m)

/-- LAMP_CURRENT_SAMPLE (R144, R145). -/
def execLampCurrentSample (dt : Nat) (m : PerHead (PerLamp Bool)) (s : State) : Outcome :=
  s.event? dt fun s => s.when s.lampSampleDue (s.sampleEvent m)

end Sys2Proof.Machine
end

