-- ==== Sys2Proof/Machine/LevelEvents.lean ====
section
/-! DEFINITION. The events of the level scanner (R27, R38), of level timing (R59, R60) and of the cross timers (R78, R79,
R81). -/

namespace Sys2Proof.Machine

/-- The scan instant has come (R27). -/
def State.scanDue (s : State) : Bool :=
  match s.levels.nextScan with
  | some t => t ≤ s.now && !s.levels.exchanging
  | none => false

/-- The exchange with the converter begins; the scan instants keep their spacing (R27). -/
def State.beginScan (s : State) : State :=
  { s with
    levels := { s.levels with exchanging := true, nextScan := s.levels.nextScan.map (· + levelScanPeriod) } }

/-- SCAN_START (R27). -/
def execScanStart (dt : Nat) (s : State) : Outcome := s.event? dt fun s => s.when s.scanDue s.beginScan.finishQuiet

/-- SCAN_COMPLETION (R27): the scanner's state, the arbiter's examination of a flowing exchange (R79), and what follows. -/
def execScanCompletion (dt : Nat) (a : ConverterAnswer) (s : State) : Outcome :=
  s.event? dt fun s => s.when s.levels.exchanging (s.applyScan a).watchHead.finish

/-- The level timer of a chamber has come to its expiry (R59). -/
def State.levelTimerDue (s : State) (c : Chamber) : Bool :=
  match (s.seq c).levelTimer with
  | some t => t ≤ s.now
  | none => false

/-- LEVEL_TIMEOUT (R59): the timer stops and the fault is raised. -/
def execLevelTimeout (dt : Nat) (c : Chamber) (s : State) : Outcome :=
  s.event? dt fun s =>
    s.when (s.levelTimerDue c)
      ((s.modSeq c fun q => { q with levelTimer := none }).raise c .levelTimeout none).finish

/-- LEVEL_LOST (R60). -/
def execLevelLost (dt : Nat) (c : Chamber) (s : State) : Outcome :=
  s.event? dt fun s => s.when (s.levelLostDue c) (s.levelLostCheck c).finish

/-- The wait timer of a chamber's claim has run out (R74). -/
def State.waitDue (s : State) (c : Chamber) : Bool :=
  match s.cross.claims.get c with
  | some k => k.waitRunning && k.waitExpiry ≤ s.now
  | none => false

/-- The expiry of a wait timer (R78, R81): an unmatched claim is removed and its chamber released; in OPENING the exchange of
a granted chamber ends; otherwise the timer only stops (log 35). -/
def State.waitExpired (s : State) (c : Chamber) : State :=
  let s1 := s.setClaim c ((s.cross.claims.get c).map CrossClaim.stopped)
  if s.cross.stage = .none || !s.granted c then s.dropClaim c
  else if s.cross.stage = .opening then s1.endExchange
  else s1

/-- CROSS_WAIT_EXPIRY (R78, R81). -/
def execCrossWaitExpiry (dt : Nat) (c : Chamber) (s : State) : Outcome :=
  s.event? dt fun s => s.when (s.waitDue c) (s.waitExpired c).finish

/-- The exchange timer has run out in stage FLOWING (R79). -/
def State.exchangeDue (s : State) : Bool :=
  match s.cross.exchangeTimer with
  | some t => t ≤ s.now && s.cross.stage = .flowing
  | none => false

/-- CROSS_EXCHANGE_EXPIRY (R79). -/
def execCrossExchangeExpiry (dt : Nat) (s : State) : Outcome :=
  s.event? dt fun s => s.when s.exchangeDue s.endExchange.finish

end Sys2Proof.Machine
end

