-- ==== Sys2Proof/Machine/LinkCommands.lean ====
section
/-! DEFINITION. READ STATUS (R187) and the events of the link ports: unknown requests (R185) and full slots (R184). -/

namespace Sys2Proof.Machine

/-- Section 1 of READ STATUS (R187). -/
def State.lockStatus (s : State) : LockStatus :=
  { time := s.lockTime, clockSet := s.charge.clock.isSet, currentVersion := versionOf s.charge.current,
    pendingVersion := versionOf (s.charge.pending.map (·.tariff)), pendingInstant := s.charge.pending.map (·.instant),
    finalized := s.acct.journal.length, reservations := s.acct.reservations, free := s.acct.free,
    period := s.acct.period, serial := s.acct.serial, stage := s.start.stage, config := s.start.config,
    format := s.start.image.map (·.format), authority := s.auth, cross := s.cross }

/-- What READ STATUS shows of a sequencer (R42, R187). -/
def Sequencer.status (q : Sequencer) : SequencerStatus :=
  { phase := q.phase, lockage := q.lockage, holds := q.holds, resume := q.resume, stepMode := q.stepMode, stepWait := q.stepWait,
    entryExcuse := q.entryExcuse, levelReached := q.levelReached, levelTimer := q.levelTimer,
    levelLostRaised := q.levelLostRaised, faults := q.faults }

/-- Sections 2 and 3 of READ STATUS (R187). -/
def State.chamberStatus (s : State) (c : Chamber) : ChamberStatus :=
  { sequencer := (s.seq c).status, stack := s.traffic.planStacks.get c, admission := s.traffic.admission.get c,
    heads := PerChamber.get s.heads c }

/-- Section 4 of READ STATUS (R187). -/
def State.deviceStatus (s : State) : DeviceStatus :=
  { addresses := s.start.image.map (·.addresses), records := s.drive.devices }

/-- Section 5 of READ STATUS (R41, R187): the figures of the most recent scan completion, the lost ages as they stood at it;
before the first completion there is none. -/
def State.levelStatus (s : State) : LevelStatus :=
  { channels := s.levels.channels, calibrations := s.start.image.map (·.channels), pairs := s.levels.pairs,
    lostAges := .of fun p => s.levels.lastScan.bind fun moment => s.levels.lostAgeAt moment p,
    counters := s.levels.counters }

/-- The content of a section (R187). -/
def State.sectionData? (s : State) : Nat → Option ReplyData
  | 1 => some (.lock s.lockStatus)
  | 2 => some (.chamber (s.chamberStatus .A))
  | 3 => some (.chamber (s.chamberStatus .B))
  | 4 => some (.devices s.deviceStatus)
  | 5 => some (.levels s.levelStatus)
  | _ => none

def readStatusBody (f : Frame) (which : Nat) (s : State) : Answer :=
  match s.sectionData? which with
  | none => s.refuse .badValue
  | some d => s.check f.lengthMatches .badValue (s.acceptQuiet d)

/-- READ STATUS (R187). -/
def execReadStatus (dt : Nat) (f : Frame) (which : Nat) (s : State) : Outcome :=
  s.request dt f 32 (readStatusBody f which)

/-- UNKNOWN_COMMAND (R185): a valid frame whose kind code is no request code. -/
def execUnknownCommand (dt : Nat) (l : Link) (code tag : Byte) (s : State) : Outcome :=
  if isRequestCode code then s.event? dt State.rest
  else s.request dt ⟨l, tag, true⟩ code fun s => s.refuse .unknownCommand

/-- BUSY_LINK (R184): a frame that meets a full reply slot and an empty busy slot. -/
def execBusyLink (dt : Nat) (l : Link) (code tag : Byte) (s : State) : Outcome :=
  s.event? dt fun s =>
    s.when ((s.port l).reply.isSome && (s.port l).busy.isNone) ((s.hear l).answerBusy l code tag)

/-- FRAME_DISCARDED_SLOTS_FULL (R184): the frame only counts as presence, whatever its kind code and tag. -/
def execFrameDiscardedSlotsFull (dt : Nat) (l : Link) (_code _tag : Byte) (s : State) : Outcome :=
  s.event? dt fun s =>
    s.when ((s.port l).reply.isSome && (s.port l).busy.isSome) (s.hear l).finishQuiet

end Sys2Proof.Machine
end

