-- ==== Sys2Proof/Machine/LockageCommands.lean ====
section
/-! DEFINITION. The holder's commands to a chamber (03, 05, 06, 07): START LOCKAGE to SET ADMISSION. -/

namespace Sys2Proof.Machine

def startLockageBody (f : Frame) (c : Option Chamber) (d : Option Direction) (s : State) : Answer :=
  s.asHolder f c fun c =>
    s.check (s.phase c = .idle) .wrongPhase
      (s.check f.lengthMatches .badValue
        (match d with
        | none => s.refuse .badValue
        | some d => s.check (s.start.stage = .ended) .condition (s.enterForming c d []).accept))

/-- START LOCKAGE (R46). -/
def execStartLockage (dt : Nat) (f : Frame) (c : Option Chamber) (d : Option Direction) (s : State) : Outcome :=
  s.request dt f 5 (startLockageBody f c d)

/-- The result code of a failed test of ADD VESSEL (R129). -/
def addRefusal : Deferral → Result
  | .beam | .sill | .level | .admission | .hazard => .notAdmissible
  | .length | .count => .noRoom
  | .recordSpace => .noRecordSpace

/-- Checks 4 and 5 of ADD VESSEL (R129). -/
def State.addChecked (s : State) (c : Chamber) (v : Vessel) : Answer :=
  s.check (s.direction? c = some v.direction) .condition
    (match s.tryTake c v with
    | .taken s' => s'.acceptQuiet
    | .failed r => s.refuse (addRefusal r))

def addVesselBody (f : Frame) (c : Option Chamber) (h : Nat) (m : Option Mark) (s : State) : Answer :=
  s.asHolder f c fun c =>
    s.check (s.seq c).planWindow .wrongPhase
      (match s.resolve h m with
      | none => s.refuse (resolveFault m)
      | some v =>
        s.check (v.state = .waiting) .wrongPhase (s.check f.lengthMatches .badValue (s.addChecked c v)))

/-- ADD VESSEL (R129). -/
def execAddVessel (dt : Nat) (f : Frame) (c : Option Chamber) (h : Nat) (m : Option Mark) (s : State) : Outcome :=
  s.request dt f 6 (addVesselBody f c h m)

/-- CLOSE ENTRY at its port: the length of the contents is checked before the table of R130, which has no such check (DEDUCED,
log 21). -/
def closeEntryBody (f : Frame) (c : Option Chamber) (list : List (Nat × Option Mark)) (s : State) : Answer :=
  s.asHolder f c fun c =>
    s.check (s.phase c = .entry) .wrongPhase
      (s.check f.lengthMatches .badValue
        (match s.listFault c list with
        | some r => s.refuse r
        | none => ((s.closeList c (list.map Prod.fst)).enterPhase c .entryClosing).accept))

/-- CLOSE ENTRY (R52, R130, R131). -/
def execCloseEntry (dt : Nat) (f : Frame) (c : Option Chamber) (list : List (Nat × Option Mark)) (s : State) : Outcome :=
  s.request dt f 7 (closeEntryBody f c list)

def exitDoneBody (f : Frame) (c : Option Chamber) (s : State) : Answer :=
  s.asHolder f c fun c =>
    s.check (s.phase c = .exit) .wrongPhase
      (s.check f.lengthMatches .badValue ((s.deletePlan c).enterIdle c).accept)

/-- EXIT DONE (R58). -/
def execExitDone (dt : Nat) (f : Frame) (c : Option Chamber) (s : State) : Outcome := s.request dt f 8 (exitDoneBody f c)

/-- The phases in which HOLD is accepted (R64). -/
def holdable (p : Phase) : Bool := p = .idle || p = .hold || p.working

def holdBody (f : Frame) (c : Option Chamber) (s : State) : Answer :=
  s.asHolder f c fun c =>
    s.check (holdable (s.phase c)) .wrongPhase
      (s.check f.lengthMatches .badValue (s.holdOrder c .commanded).accept)

/-- HOLD (R64). -/
def execHold (dt : Nat) (f : Frame) (c : Option Chamber) (s : State) : Outcome := s.request dt f 9 (holdBody f c)

/-- An accepted RESUME (R67): the set is emptied, the resume phase cleared, and the phase it named entered. -/
def State.resume (s : State) (c : Chamber) : State :=
  match (s.seq c).resume with
  | some p => (s.modSeq c fun q => { q with holds := .empty, resume := none }).enterPhase c p
  | none => s

def resumeBody (f : Frame) (c : Option Chamber) (s : State) : Answer :=
  s.asHolder f c fun c =>
    s.check (s.phase c = .hold) .wrongPhase
      (s.check f.lengthMatches .badValue
        (s.check (s.seq c).holds.resumable .condition (s.resume c).accept))

/-- RESUME (R67). -/
def execResume (dt : Nat) (f : Frame) (c : Option Chamber) (s : State) : Outcome := s.request dt f 10 (resumeBody f c)

/-- An accepted ABANDON (R68). -/
def State.abandon (s : State) (c : Chamber) : State := ((s.abandonPlan c).releaseReservation c).enterIdle c

def abandonBody (f : Frame) (c : Option Chamber) (s : State) : Answer :=
  s.asHolder f c fun c =>
    s.check (s.phase c = .hold) .wrongPhase
      (s.check f.lengthMatches .badValue
        (s.check (!(s.seq c).holds.fault) .condition (s.abandon c).accept))

/-- ABANDON (R68). -/
def execAbandon (dt : Nat) (f : Frame) (c : Option Chamber) (s : State) : Outcome := s.request dt f 11 (abandonBody f c)

/-- A status query for a FAULTED device (R95). -/
def State.queryFaulted (s : State) (d : Device) : State :=
  if (s.dev d).position = .faulted then s.statusQuery d else s

/-- An accepted acknowledgement (R95). -/
def State.acknowledge (s : State) (c : Chamber) : State :=
  let s1 := s.modSeq c fun q =>
    { q with faults := { q.faults with acknowledged := true }, holds := q.holds.put .fault false }
  c.devices.foldl State.queryFaulted s1

/-- Step 2 of R185 for ACKNOWLEDGE FAULT: a subject that is no chamber passes it and meets BAD_VALUE at step 3 (R186). -/
def acknowledgeFaultBody (f : Frame) (c : Option Chamber) (s : State) : Answer :=
  match c with
  | none => s.refuse .badValue
  | some c =>
    s.asHolder f (some c) fun c =>
      s.check (s.phase c = .hold) .wrongPhase
        (s.check f.lengthMatches .badValue
          (s.check (s.seq c).holds.fault .condition (s.acknowledge c).accept))

/-- ACKNOWLEDGE FAULT with subject A or B, or any subject but CROSS (R95). -/
def execAcknowledgeFault (dt : Nat) (f : Frame) (c : Option Chamber) (s : State) : Outcome :=
  s.request dt f 12 (acknowledgeFaultBody f c)

/-- An accepted ACKNOWLEDGE FAULT with subject CROSS (R84): XV is queried, and its conflict no longer kept (R101). -/
def State.acknowledgeCross (s : State) : State :=
  ({ s with drive := { s.drive with conflictKept := false } } : State).statusQuery .xv

def acknowledgeFaultCrossBody (f : Frame) (s : State) : Answer :=
  s.check (f.link = .desk) .notPermitted
    (s.check f.lengthMatches .badValue
      (s.check ((s.dev .xv).position = .faulted) .condition s.acknowledgeCross.accept))

/-- ACKNOWLEDGE FAULT with subject CROSS (R84). -/
def execAcknowledgeFaultCross (dt : Nat) (f : Frame) (s : State) : Outcome :=
  s.request dt f 12 (acknowledgeFaultCrossBody f)

/-- An accepted SET MODE (R63). -/
def State.setMode (s : State) (c : Chamber) (m : StepMode) : State :=
  let s1 := s.modSeq c fun q => { q with stepMode := m }
  match m with
  | .auto => s1.releaseStep c
  | .step => s1

def setModeBody (f : Frame) (c : Option Chamber) (m : Option StepMode) (s : State) : Answer :=
  s.asHolder f c fun c =>
    s.check (s.phase c ≠ .lockedOut) .wrongPhase
      (s.check f.lengthMatches .badValue
        (match m with
        | none => s.refuse .badValue
        | some m => (s.setMode c m).accept))

/-- SET MODE (R63). -/
def execSetMode (dt : Nat) (f : Frame) (c : Option Chamber) (m : Option StepMode) (s : State) : Outcome :=
  s.request dt f 13 (setModeBody f c m)

/-- The phases in which ADVANCE may release a command (R62). -/
def advanceable : Phase → Bool
  | .turning | .preLevelling | .entryOpening | .entryClosing | .levelling | .exitOpening => true
  | _ => false

def advanceBody (f : Frame) (c : Option Chamber) (s : State) : Answer :=
  s.asHolder f c fun c =>
    s.check (advanceable (s.phase c)) .wrongPhase
      (s.check f.lengthMatches .badValue
        (s.check (s.seq c).stepWait.isSome .condition (s.releaseStep c).accept))

/-- ADVANCE (R62). -/
def execAdvance (dt : Nat) (f : Frame) (c : Option Chamber) (s : State) : Outcome := s.request dt f 14 (advanceBody f c)

/-- SET SERVICE by its value (R71); a value that is neither is refused after the phases in which one of the two could be
taken (log 22). -/
def State.serviceAnswer (s : State) (f : Frame) (c : Chamber) : Option Service → Answer
  | some .out =>
    s.check (s.phase c = .idle) .wrongPhase
      (s.check f.lengthMatches .badValue (s.enterPhase c .outOfService).accept)
  | some .into =>
    s.check (s.phase c = .outOfService) .wrongPhase
      (s.check f.lengthMatches .badValue (s.check s.configValid .condition (s.enterPhase c .idle).accept))
  | none =>
    s.check (s.phase c = .idle || s.phase c = .outOfService) .wrongPhase (s.refuse .badValue)

def setServiceBody (f : Frame) (c : Option Chamber) (v : Option Service) (s : State) : Answer :=
  s.asHolder f c fun c => s.serviceAnswer f c v

/-- SET SERVICE (R71). -/
def execSetService (dt : Nat) (f : Frame) (c : Option Chamber) (v : Option Service) (s : State) : Outcome :=
  s.request dt f 15 (setServiceBody f c v)

def setAdmissionBody (f : Frame) (c : Option Chamber) (n : Nat) (s : State) : Answer :=
  s.asHolder f c fun c =>
    s.check (s.phase c ≠ .lockedOut) .wrongPhase
      (s.check (f.lengthMatches && n ≤ 7) .badValue
        (s.modTraffic fun t => { t with admission := t.admission.set c n }).acceptQuiet)

/-- SET ADMISSION (R118). -/
def execSetAdmission (dt : Nat) (f : Frame) (c : Option Chamber) (level : Nat) (s : State) : Outcome :=
  s.request dt f 16 (setAdmissionBody f c level)

end Sys2Proof.Machine
end

