-- ==== Sys2Proof/Machine/SystemCommands.lean ====
section
/-! DEFINITION. The desk's commands that need no authority: CLEAR LOCKOUT (R99), LAMP CHECK (R147), LOAD CONFIGURATION
(R206). -/

namespace Sys2Proof.Machine

/-- An accepted CLEAR LOCKOUT (R99). -/
def State.clearLockout (s : State) (c : Chamber) : State :=
  let s1 := s.modSeq c fun q => { q with faults := ⟨none, none, false⟩ }
  let s2 : State := { s1 with drive := { s1.drive with barred := s1.drive.barred.set c false } }
  let s3 := c.devices.foldl State.statusQuery s2
  let s4 := (s3.changePhase c .hold).modSeq c fun q => { q with holds := HoldSet.empty.put .commanded true }
  (s4.stopChamber c).produce (.holdEntered c .commanded)

def clearLockoutBody (f : Frame) (c : Option Chamber) (s : State) : Answer :=
  s.check (f.link = .desk) .notPermitted
    (match c with
    | none => s.refuse .badValue
    | some c =>
      s.check (s.phase c = .lockedOut) .wrongPhase
        (s.check f.lengthMatches .badValue (s.clearLockout c).accept))

/-- CLEAR LOCKOUT (R99). -/
def execClearLockout (dt : Nat) (f : Frame) (c : Option Chamber) (s : State) : Outcome :=
  s.request dt f 17 (clearLockoutBody f c)

def lampCheckBody (f : Frame) (s : State) : Answer :=
  s.check (f.link = .desk) .notPermitted (s.check f.lengthMatches .badValue s.checkLamps.accept)

/-- LAMP CHECK (R147). -/
def execLampCheck (dt : Nat) (f : Frame) (s : State) : Outcome := s.request dt f 18 (lampCheckBody f)

/-- The contents of LOAD CONFIGURATION are acceptable (R206): 95 bytes that pass checks 1, 3 and 4 of R203. -/
def loadable (block : List Byte) : Bool := block.length = 95 && blockFault true (readBlock block) = none

/-- The block is written and read back (R206). With a read-back that differs from what was written the part goes on under the
configuration it has; what the store holds has no say in the answer (log 30). -/
def State.writeConfiguration (s : State) (block : List Byte) (x : StoreAnswer) : Answer :=
  let written := withCheck block
  if x.read written = written then
    { s with start := { s.start with store := x.held written, reconfigurePending := true } : State }.acceptQuiet
  else ⟨.condition, .none, { s with start := { s.start with store := x.held written } }, false⟩

/-- The length of the contents is the one that R206 gives, 95 bytes: it stands in check 2 with the checks of the block. -/
def loadConfigurationBody (f : Frame) (block : List Byte) (x : StoreAnswer) (s : State) : Answer :=
  s.check (f.link = .desk) .notPermitted
    (s.check (s.phase .A = .outOfService && s.phase .B = .outOfService) .wrongPhase
      (s.check (loadable block) .badValue (s.writeConfiguration block x)))

/-- LOAD CONFIGURATION (R206). -/
def execLoadConfiguration (dt : Nat) (f : Frame) (block : List Byte) (x : StoreAnswer) (s : State) : Outcome :=
  s.request dt f 19 (loadConfigurationBody f block x)

end Sys2Proof.Machine
end

