-- ==== Sys2Proof/Machine/TariffCommands.lean ====
section
/-! DEFINITION. SET TIME (R153), LOAD TARIFF (R156), READ TARIFF (R158) and the tick of the clock (R151, R157). -/

namespace Sys2Proof.Machine

/-- The three fields of a clock setting lie in the ranges of R151. -/
def timeOk (day second weekday : Nat) : Bool := day ≤ 65535 && second ≤ 86399 && weekday ≤ 6

/-- An accepted SET TIME (R153): the fields, SET, the tick restarted, the notice. -/
def State.setClock (s : State) (t : LockTime) : State :=
  let before := s.charge.clock
  ({ s with charge := { s.charge with clock := ⟨t, true, s.now + 1000⟩ } } : State).produce
    (.clockSet before.time before.isSet)

def setTimeBody (f : Frame) (day second weekday : Nat) (s : State) : Answer :=
  s.check f.link.operates .notPermitted
    (s.check (f.lengthMatches && timeOk day second weekday) .badValue (s.setClock ⟨day, second, weekday⟩).acceptQuiet)

/-- SET TIME (R153). -/
def execSetTime (dt : Nat) (f : Frame) (day second weekday : Nat) (s : State) : Outcome :=
  s.request dt f 23 (setTimeBody f day second weekday)

/-- A row of a tariff lies in the ranges of R155. -/
def rateOk (r : Rate) : Bool := r.base ≤ 1000000 && r.metre ≤ 100000

/-- Every field of a tariff lies in its range (R155). -/
def tariffOk (t : Tariff) : Bool :=
  natIn 1 65535 t.version &&
    rateOk t.rates.pleasure && rateOk t.rates.cargo && rateOk t.rates.tanker && rateOk t.rates.passenger &&
    t.factors.f0 ≤ 400 && t.factors.f1 ≤ 400 && t.factors.f2 ≤ 400 && t.factors.f3 ≤ 400 &&
    t.bandMap.length = 168 && t.bandMap.all (· ≤ 3) && t.water ≤ 100000

/-- An effective instant lies in its range (R156). -/
def instantOk : Option Instant → Bool
  | some i => i.day ≤ 65535 && i.second ≤ 86399
  | none => true

/-- An accepted LOAD TARIFF (R156): IMMEDIATE switches at once. -/
def State.loadTariff (s : State) (t : Tariff) : Option Instant → State
  | some i => { s with charge := { s.charge with pending := some ⟨t, i⟩ } }
  | none => s.switchTo t

def loadTariffBody (f : Frame) (t : Tariff) (i : Option Instant) (s : State) : Answer :=
  s.check f.link.isToll .notPermitted
    (s.check (f.lengthMatches && tariffOk t && instantOk i) .badValue
      (s.check (t.version ≠ versionOf s.charge.current) .badValue (s.loadTariff t i).acceptQuiet))

/-- LOAD TARIFF (R156). -/
def execLoadTariff (dt : Nat) (f : Frame) (t : Tariff) (i : Option Instant) (s : State) : Outcome :=
  s.request dt f 25 (loadTariffBody f t i)

/-- The reply of READ TARIFF (R158), nothing for an empty slot. -/
def ChargeUnit.slotData? (u : ChargeUnit) : Slot → Option ReplyData
  | .current => u.current.map fun t => .tariff t none
  | .pending => u.pending.map fun p => .tariff p.tariff (some p.instant)

def readTariffBody (f : Frame) (slot : Option Slot) (s : State) : Answer :=
  match slot with
  | none => s.refuse .badValue
  | some x =>
    s.check f.lengthMatches .badValue
      (match s.charge.slotData? x with
      | none => s.refuse .empty
      | some d => s.acceptQuiet d)

/-- READ TARIFF (R158). -/
def execReadTariff (dt : Nat) (f : Frame) (slot : Option Slot) (s : State) : Outcome :=
  s.request dt f 35 (readTariffBody f slot)

/-- The clock ticks and its next tick falls a second later (R151). -/
def State.tickClock (s : State) : State :=
  { s with
    charge := { s.charge with clock := { s.charge.clock with time := s.lockTime.tick, nextTick := s.charge.clock.nextTick + 1000 } } }

/-- A tick, due once its moment has come (log 27): the switch test follows unless the part is held (R157, R201). -/
def State.tick (s : State) : State :=
  if s.charge.clock.nextTick ≤ s.now then
    if s.isHeld then s.tickClock.rest else s.tickClock.switchTest.finishQuiet
  else s.rest

/-- CLOCK_TICK (R151). -/
def execClockTick (dt : Nat) (s : State) : Outcome := .next (s.beginEvent dt).tick

end Sys2Proof.Machine
end

