-- ==== Sys2Proof/Machine/VesselCommands.lean ====
section
/-! DEFINITION. REGISTER VESSEL (R109, R110), AMEND VESSEL (R111), WITHDRAW VESSEL (R112, R113), READ VESSEL (R121) and READ
QUEUE (R122). -/

namespace Sys2Proof.Machine

/-- The three dimensions and the account lie in the ranges of R104. -/
def dimensionsOk (length beam draught account : Nat) : Bool :=
  natIn 30 2000 length && natIn 20 250 beam && natIn 10 600 draught && account ≤ 255

/-- Check 5 of R109 and check 6 of R111: the class is exempt, or the account is OPEN. -/
def State.accountOk (s : State) (cls : VesselClass) (account : Nat) : Bool := cls.exempt || !(s.account account).blocked

/-- The record that a registration fills (R110). -/
def newVessel (s : State) (r : Registration) (cls : VesselClass) (d : Direction) (h : Nat) : Vessel :=
  { handle := h, mark := r.mark, cls, length := r.length, beam := r.beam, draught := r.draught, account := r.account,
    direction := d, arrival := s.lockTime, state := .waiting, deferral := none }

/-- Emergency handling follows when the class is EMERGENCY (R110, R111); other blocks then react. -/
def State.withEmergency (s : State) (v : Vessel) (d : ReplyData) : Answer :=
  if v.cls = .emergency then (s.handleEmergency v.handle).accept d else s.acceptQuiet d

/-- An accepted registration (R110). -/
def State.register (s : State) (v : Vessel) : Answer := ((s.addRecord v).enqueue v).withEmergency v (.handle v.handle)

/-- Checks 2 to 6 of REGISTER VESSEL (R109). -/
def State.registerChecked (s : State) (r : Registration) (cls : VesselClass) (d : Direction) : Answer :=
  s.check (s.traffic.vessels.all fun v => v.mark ≠ r.mark) .duplicate
    (s.check s.configValid .condition
      (s.check (s.fitsSome r.length r.beam) .tooLarge
        (s.check (s.accountOk cls r.account) .accountBlocked
          (match s.freeHandle with
          | none => s.refuse .tableFull
          | some h => s.register (newVessel s r cls d h)))))

def registerVesselBody (f : Frame) (r : Registration) (s : State) : Answer :=
  s.check f.link.operates .notPermitted
    (match r.cls, r.direction with
    | some cls, some d =>
      s.check (f.lengthMatches && markOk r.mark && dimensionsOk r.length r.beam r.draught r.account) .badValue
        (s.registerChecked r cls d)
    | _, _ => s.refuse .badValue)

/-- REGISTER VESSEL (R109, R110). -/
def execRegisterVessel (dt : Nat) (f : Frame) (r : Registration) (s : State) : Outcome :=
  s.request dt f 20 (registerVesselBody f r)

/-- The vessel as an amendment writes it (R111): mark, direction and arrival time keep their values. -/
def Vessel.amended (v : Vessel) (a : Amendment) (cls : VesselClass) : Vessel :=
  { v with length := a.length, beam := a.beam, draught := a.draught, cls, account := a.account, deferral := none }

/-- An accepted amendment (R111). -/
def State.amend (s : State) (w : Vessel) : Answer :=
  (((s.dequeue w.handle).modVessel w.handle fun _ => w).enqueue w).withEmergency w .none

/-- Checks 3 to 6 of AMEND VESSEL (R111). -/
def State.amendChecked (s : State) (f : Frame) (v : Vessel) (a : Amendment) : Answer :=
  match a.cls with
  | none => s.refuse .badValue
  | some cls =>
    s.check (f.lengthMatches && dimensionsOk a.length a.beam a.draught a.account) .badValue
      (s.check s.configValid .condition
        (s.check (s.fitsSome a.length a.beam) .tooLarge
          (s.check (s.accountOk cls a.account) .accountBlocked (s.amend (v.amended a cls)))))

def amendVesselBody (f : Frame) (h : Nat) (m : Option Mark) (a : Amendment) (s : State) : Answer :=
  s.check f.link.operates .notPermitted
    (match s.resolve h m with
    | none => s.refuse (resolveFault m)
    | some v => s.check (v.state = .waiting) .wrongPhase (s.amendChecked f v a))

/-- AMEND VESSEL (R111). -/
def execAmendVessel (dt : Nat) (f : Frame) (h : Nat) (m : Option Mark) (a : Amendment) (s : State) : Outcome :=
  s.request dt f 21 (amendVesselBody f h m a)

/-- A withdrawal may take place (R112, R113). -/
def State.withdrawable (s : State) : VesselState → Bool
  | .waiting => true
  | .saved _ => true
  | .aboard _ => false
  | .assigned c => (s.seq c).planWindow

/-- An accepted withdrawal (R112, R113). -/
def State.withdraw (s : State) (v : Vessel) : State :=
  match v.state with
  | .assigned c => ((s.leavePlan c v).releaseIfEmpty c).deleteVessel v.handle
  | .saved c => (s.unsave c v.handle).deleteVessel v.handle
  | _ => s.deleteVessel v.handle

def withdrawVesselBody (f : Frame) (h : Nat) (m : Option Mark) (s : State) : Answer :=
  s.check f.link.operates .notPermitted
    (match s.resolve h m with
    | none => s.refuse (resolveFault m)
    | some v =>
      s.check (s.withdrawable v.state) .wrongPhase (s.check f.lengthMatches .badValue (s.withdraw v).acceptQuiet))

/-- WITHDRAW VESSEL (R112, R113). -/
def execWithdrawVessel (dt : Nat) (f : Frame) (h : Nat) (m : Option Mark) (s : State) : Outcome :=
  s.request dt f 22 (withdrawVesselBody f h m)

/-- The place of a handle in a list, counted from 1. -/
def placeOf (h : Nat) (hs : List Nat) : Option Nat := (hs.findIdx? (· = h)).map (· + 1)

/-- The place of a saved vessel (R121): of its saved plan on the stack, then within it. -/
def savedPlaceOf (h : Nat) (stack : List SavedPlan) : Option (Nat × Nat) :=
  (stack.zipIdx 1).findSome? fun x => (placeOf h x.1.handles).map fun n => (x.2, n)

/-- The reply of READ VESSEL (R121). -/
def State.vesselView (s : State) (v : Vessel) : VesselView :=
  { vessel := v
    priority := s.priority v.cls
    exempt := v.cls.exempt
    planPlace := match v.state with
      | .assigned c => placeOf v.handle (s.planHandles c)
      | .aboard c => placeOf v.handle (s.planHandles c)
      | _ => none
    savedPlace := match v.state with
      | .saved c => savedPlaceOf v.handle (s.traffic.planStacks.get c)
      | _ => none }

def readVesselBody (f : Frame) (h : Nat) (m : Option Mark) (s : State) : Answer :=
  match s.resolve h m with
  | none => s.refuse (resolveFault m)
  | some v => s.check f.lengthMatches .badValue (s.acceptQuiet (.vessel (s.vesselView v)))

/-- READ VESSEL (R121). -/
def execReadVessel (dt : Nat) (f : Frame) (h : Nat) (m : Option Mark) (s : State) : Outcome :=
  s.request dt f 33 (readVesselBody f h m)

/-- One entry of READ QUEUE (R122). -/
def State.queueView (s : State) (place h : Nat) : Option QueueView :=
  (s.vessel? h).map fun v => ⟨place, h, v.mark, v.cls, s.priority v.cls, v.arrival, v.deferral⟩

/-- Up to 16 entries of a queue from a starting place (R122). -/
def State.queueEntries (s : State) (e : End) (place : Nat) : List QueueView :=
  ((((s.traffic.queues.get e).zipIdx).drop place).take 16).filterMap fun x => s.queueView x.2 x.1

def readQueueBody (f : Frame) (e : Option End) (place : Nat) (s : State) : Answer :=
  match e with
  | none => s.refuse .badValue
  | some e =>
    s.check (f.lengthMatches && place ≤ 47) .badValue
      (s.acceptQuiet (.queue (s.traffic.queues.get e).length (s.deferredOf e).length (s.queueEntries e place)))

/-- READ QUEUE (R122). -/
def execReadQueue (dt : Nat) (f : Frame) (e : Option End) (place : Nat) (s : State) : Outcome :=
  s.request dt f 34 (readQueueBody f e place)

end Sys2Proof.Machine
end

