-- ==== Sys2Proof/Machine/Receiver.lean ====
section
/-! DEFINITION. A link's receiver after a discarded frame (R183): it searches on among the bytes, and every valid frame that it
finds there is heard, and taken or answered BUSY_LINK like any other (R184). -/

namespace Sys2Proof.Machine

/-- The chamber that the contents name (R186). -/
def chamberNamed (x : Contents) : Option Chamber := chamberOf? x.subject

/-- ACKNOWLEDGE FAULT by its subject byte (R186). -/
def acknowledgeBody (f : Frame) (x : Contents) (s : State) : Answer :=
  if x.subject = Subject.cross.code then acknowledgeFaultCrossBody f s else acknowledgeFaultBody f (chamberNamed x) s

/-- The request of a kind code with the fields of its contents (the command code table, R186); any other code is unknown. -/
def requestBody (code : Byte) (f : Frame) (contents : List Byte) (x : Contents) (s : State) : Answer :=
  match code.toNat with
  | 1 => claimBody f (chamberNamed x) s
  | 2 => releaseBody f (chamberNamed x) s
  | 3 => presentBody f s
  | 4 => seizeBody f (chamberNamed x) s
  | 5 => startLockageBody f (chamberNamed x) (directionOf? x.direction) s
  | 6 => addVesselBody f (chamberNamed x) x.handle x.mark s
  | 7 => closeEntryBody f (chamberNamed x) x.list s
  | 8 => exitDoneBody f (chamberNamed x) s
  | 9 => holdBody f (chamberNamed x) s
  | 10 => resumeBody f (chamberNamed x) s
  | 11 => abandonBody f (chamberNamed x) s
  | 12 => acknowledgeBody f x s
  | 13 => setModeBody f (chamberNamed x) x.mode s
  | 14 => advanceBody f (chamberNamed x) s
  | 15 => setServiceBody f (chamberNamed x) x.service s
  | 16 => setAdmissionBody f (chamberNamed x) x.level s
  | 17 => clearLockoutBody f (chamberNamed x) s
  | 18 => lampCheckBody f s
  | 19 => loadConfigurationBody f contents x.store s
  | 20 =>
    registerVesselBody f
      { x.registration with cls := classOf? x.cls, direction := directionOf? x.direction } s
  | 21 => amendVesselBody f x.handle x.mark { x.amendment with cls := classOf? x.cls } s
  | 22 => withdrawVesselBody f x.handle x.mark s
  | 23 => setTimeBody f x.day x.second x.weekday s
  | 25 => loadTariffBody f x.tariff x.effective s
  | 26 => blockAccountBody f x.account s
  | 27 => unblockAccountBody f x.account s
  | 28 => peekRecordBody f s
  | 29 => takeRecordBody f x.expected s
  | 30 => closePeriodBody f s
  | 31 => readPeriodImageBody f x.account s
  | 32 => readStatusBody f x.which s
  | 33 => readVesselBody f x.handle x.mark s
  | 34 => readQueueBody f x.queue x.place s
  | 35 => readTariffBody f x.slot s
  | 36 => readAccountBody f x.account s
  | _ => s.refuse .unknownCommand

/-- The length of the contents matches the command (step 5 of R185). PRESENT, LAMP CHECK, PEEK RECORD and CLOSE PERIOD carry no
field, so their contents are empty; R206 gives the length of LOAD CONFIGURATION. Of the other commands the manual does not state it
(log 32). -/
def lengthAgrees (code : Byte) (contents : List Byte) (x : Contents) : Bool :=
  if code.toNat ∈ [3, 18, 28, 30] then contents = [] else if code.toNat = 19 then contents.length = 95 else x.lengthMatches

/-- A valid frame that the receiver has found among bytes (R183, R184): an event of its own at the present time, heard at the moment
at which its last check byte came. What its contents carry is a free value (log 32). -/
def State.takeHeard (l : Link) (bytes : List ArrivedByte) (s : State) (h : Heard) : State :=
  let x := Config.contentsOf h.kind h.contents
  let f : Frame := ⟨l, h.tag, lengthAgrees h.kind h.contents x⟩
  ((s.beginEvent 0).hearAt l (s.now - h.age bytes)).meetSlots f h.kind (requestBody h.kind f h.contents x)

/-- The receiver of a link has discarded the attempt that the bytes begin (R183): it searches on behind the start byte, takes the
valid frames that it finds in their order, and keeps the attempt that waits for more bytes. Bytes that are a valid frame, or did not
come as those of an attempt do, are no such attempt: nothing happens (log 32). -/
def State.discardFrame (s : State) (l : Link) (gap : Bool) (bytes : List ArrivedByte) : State :=
  let values := bytes.map (·.value)
  if (readFrame values).isSome || !arrivedInTime gap bytes then s.rest
  else
    let found := searchAgain gap values
    (found.1.foldl (State.takeHeard l bytes) s.finishQuiet).modPort l fun p => { p with receive := found.2 }

/-- FRAME_INVALID (R183). -/
def execFrameInvalid (dt : Nat) (l : Link) (bytes : List ArrivedByte) (s : State) : Outcome :=
  s.event? dt fun s => s.discardFrame l false bytes

/-- FRAME_GAP_TIMEOUT (R183): at the end of the gap the frame is discarded, and so is every attempt among its bytes that is still
short, for the same gap cuts it off. -/
def execFrameGapTimeout (dt : Nat) (l : Link) (bytes : List ArrivedByte) (s : State) : Outcome :=
  s.event? dt fun s => s.discardFrame l true bytes

end Sys2Proof.Machine
end

