-- ==== Sys2Proof/Machine/StartEvents.lean ====
section
/-! DEFINITION. Holds, releases and starts (R201, R202), the configuration read (R203), the census (R204), and the sending of
a frame, which ends an accepted LOAD CONFIGURATION with a hold (R184, R206). -/

namespace Sys2Proof.Machine

/-! ### Holding the part -/

/-- What the hold does to a link port: a frame in progress, a reply and a request are abandoned (R199, R201). -/
def LinkPort.abandon (p : LinkPort) : LinkPort := { p with receive := [], reply := none, busy := none, sending := none }

/-- A drive transaction in progress is abandoned without effect (R26, R201). -/
def DriveController.abandon (u : DriveController) : DriveController :=
  { u with devices := u.devices.map fun r => { r with onLine := none }, sentAt := none }

/-- The part is held from now on (R201): stage RESET, no lamp driven (R142), every operation in progress abandoned; the level
records take and keep their values of R39, the exchange with the converter abandoned (R38, log 31). -/
def State.holdPart (s : State) (h : Hold) : State :=
  { s with
    start := { s.start with stage := .reset, hold := h, reconfigurePending := false }
    links := s.links.map fun _ p => p.abandon
    drive := s.drive.abandon
    levels := .initial
    heads := PerHead.of fun h => (PerHead.get s.heads h).failSafe
    event := .blank }

/-- Three samples have fallen since the line or the power last turned (R201). -/
def State.holdTurns (s : State) (turned : Nat) : Bool := turned + 3 * holdSamplePeriod ≤ s.now

/-- RESET_LINE_HELD (R201). -/
def execResetLineHeld (dt : Nat) (s : State) : Outcome :=
  let s1 := s.beginEvent dt
  .next (s1.when (!s1.start.hold.line && s1.holdTurns s1.start.hold.lineTurned)
    (s1.holdPart
      { s1.start.hold with
        line := true, powerLost := s1.isHeld && s1.start.hold.powerLost, lineTurned := s1.now }))

/-- MAIN_POWER_HELD (R201). -/
def execMainPowerHeld (dt : Nat) (s : State) : Outcome :=
  let s1 := s.beginEvent dt
  .next (s1.when (!s1.start.hold.power && s1.holdTurns s1.start.hold.powerTurned)
    (s1.holdPart { s1.start.hold with power := true, powerLost := true, powerTurned := s1.now }))

/-- BATTERY_LOW (R202): the monitor watches the retained supply while main power is absent, and three of its samples have fallen. -/
def execBatteryLow (dt : Nat) (s : State) : Outcome :=
  let s1 := s.beginEvent dt
  .next (s1.when (s1.start.hold.power && s1.holdTurns s1.start.hold.powerTurned)
    { s1 with start := { s1.start with retainedValid := false }, event := .blank })

/-! ### Sending a frame -/

/-- The reply to an accepted LOAD CONFIGURATION is the frame whose last byte goes out (R206). -/
def State.reconfigureSent (s : State) (l : Link) : Bool :=
  s.start.reconfigurePending && l = .desk && (s.port l).sending = some .reply

/-- The frame being sent is out: its slot empties and the transmitter takes the next frame (R184), or the part holds itself
(R206). -/
def State.frameOut (s : State) (l : Link) : State :=
  if s.reconfigureSent l then s.holdPart { s.start.hold with reconfigure := true, powerLost := false }
  else (s.modPort l LinkPort.sent).finishQuiet

/-- FRAME_SENT (R184). -/
def execFrameSent (dt : Nat) (l : Link) (s : State) : Outcome :=
  s.event? dt fun s => s.when (s.port l).sending.isSome (s.frameOut l)

/-! ### The release -/

/-- The kind of start that the hold brings (R202): RECONFIGURED whenever an accepted LOAD CONFIGURATION held the part without a
loss of main power, joined by the reset line or not (DESIGN CHOICE, log 25). -/
def Hold.kind (h : Hold) (retainedValid : Bool) : StartKind :=
  if h.powerLost then (if retainedValid then .warm else .cold)
  else if h.reconfigure then .reconfigured
  else .lineReset

/-- What held the part holds it no longer. Of two that held it together either may be the one that let go now, so neither is said to
have (log 9). -/
def Hold.released (h : Hold) (now : Nat) : Hold :=
  ⟨false, false, false, false, if h.line && !h.power then now else h.lineTurned, if h.power && !h.line then now else h.powerTurned⟩

/-- What holds the part may have let go: three samples have fallen since it began (R201). -/
def State.releasable (s : State) : Bool :=
  let h := s.start.hold
  s.isHeld && (!h.line || s.holdTurns h.lineTurned) && (!h.power || s.holdTurns h.powerTurned)

/-- The retained blocks after a cold start (R166, R181, R202); the running clock begins its first second (log 27). -/
def State.coldRetained (s : State) : State :=
  { s with
    charge := { clock := ⟨⟨0, 0, 0⟩, false, s.now + 1000⟩, current := none, pending := none }
    acct := .cold
    start := { s.start with retainedValid := true } }

/-- The accounting unit after a start that keeps the retained domain (R181): only the reservations are lost. -/
def State.keptRetained (s : State) : State := s.modAcct fun u => { u with reservations := 0 }

/-- The volatile state of every block after any start (R26, R39, R73, R86, R103, R124, R139, R150, R199, R200). -/
def State.freshVolatile (s : State) (k : StartKind) : State :=
  { s with
    drive := .initial
    levels := .initial
    seqs := .both .initial
    cross := .initial
    heads := PerHead.all .initial
    nextLampSample := s.now + lampSamplePeriod
    samplesFrom := s.now
    traffic := .initial
    auth := .both .initial
    links := .all .initial
    start :=
      { s.start with
        stage := .reading, config := .invalid none, image := none, kind := k, censusSince := 0, queriesPlaced := false,
        hold := s.start.hold.released s.now, reconfigurePending := false }
    event := .blank }

/-- The start at the release (R202). -/
def State.startPart (s : State) : State :=
  let k := s.start.hold.kind s.start.retainedValid
  (if k = .cold then s.coldRetained else s.keptRetained).freshVolatile k

/-- PART_RELEASED (R201, R202). -/
def execPartReleased (dt : Nat) (s : State) : Outcome :=
  let s1 := s.beginEvent dt
  .next (s1.when s1.releasable s1.startPart)

/-! ### The configuration read and the census -/

/-- The bytes that the read brings (R203): a store that does not answer returns all ones. -/
def State.blockBytes (s : State) (answers : Bool) : List Byte := if answers then s.start.store else List.replicate 99 0xFF#8

/-- The trips are enabled and armed, and the samples after this moment count for them (R23, R24, R101, R203; log 59). -/
def State.armTrips (s : State) : State :=
  { s with drive := { s.drive with limitTrips := .both ⟨true, true, s.now + 1⟩, crossTrip := ⟨true, true, s.now + 1⟩ } }

/-- The first scan begins (R38). -/
def State.startScanning (s : State) : State :=
  { s with
    levels := { s.levels with firstScan := some s.now, exchanging := true, nextScan := some (s.now + levelScanPeriod) } }

/-- The end of a read that found the block VALID (R203). -/
def State.readValid (s : State) : State :=
  { s.armTrips.startScanning with
    start := { s.start with config := .valid, stage := .census, censusSince := s.now } }

/-- The end of a read that found the block INVALID (R203): both chambers enter OUT_OF_SERVICE. R203 speaks of chambers in IDLE
alone; one that a request during READING has taken to HOLD or to OUT_OF_SERVICE goes the same way, keeps its hold set and its
resume phase, and produces PHASE_CHANGED even from OUT_OF_SERVICE (DESIGN CHOICE, log 53). -/
def State.readInvalid (s : State) (cause : ConfigCause) : State :=
  let s1 : State := { s.armTrips with start := { s.start with config := .invalid (some cause), stage := .ended } }
  ((s1.enterPhase .A .outOfService).enterPhase .B .outOfService).produce .started

/-- The end of the read (R203): the image holds the block as read. -/
def State.readEnds (s : State) (answers : Bool) : State :=
  let s1 : State := { s with start := { s.start with image := some (readBlock (s.blockBytes answers)) } }
  match storedFault (s.blockBytes answers) with
  | none => s1.readValid
  | some cause => s1.readInvalid cause

/-- CONFIG_READ_END (R203). -/
def execConfigReadEnd (dt : Nat) (answers : Bool) (s : State) : Outcome :=
  s.event? dt fun s => s.when (s.start.stage = .reading) (s.readEnds answers).finish

/-- The wait before the census is over (R204). -/
def State.censusDue (s : State) : Bool :=
  s.start.stage = .census && !s.start.queriesPlaced &&
    ((Device.all.all fun d => s.drive.limits.get d ≠ .unknown) || s.start.censusSince + censusWait ≤ s.now)

/-- The census is placed (R204). -/
def State.placeQueries (s : State) : State :=
  let s1 := Device.all.foldl State.statusQuery s
  { s1 with start := { s1.start with queriesPlaced := true } }

/-- CENSUS_QUERIES (R204). -/
def execCensusQueries (dt : Nat) (s : State) : Outcome :=
  s.event? dt fun s => s.when s.censusDue s.placeQueries.finish

end Sys2Proof.Machine
end

