-- ==== Sys2Proof/Machine/Dispatch.lean ====
section
/-! DEFINITION. The meaning of each command: one arm for each constructor of Instr. -/

namespace Sys2Proof.Machine

def exec (i : Instr) (s : State) : Host.Outcome State Fault Refusal :=
  match i with
  | .claim dt f c => Sys2Proof.Machine.execClaim dt f c s
  | .release dt f c => Sys2Proof.Machine.execRelease dt f c s
  | .present dt f => Sys2Proof.Machine.execPresent dt f s
  | .seize dt f c => Sys2Proof.Machine.execSeize dt f c s
  | .startLockage dt f c d => Sys2Proof.Machine.execStartLockage dt f c d s
  | .addVessel dt f c handle mark => Sys2Proof.Machine.execAddVessel dt f c handle mark s
  | .closeEntry dt f c list => Sys2Proof.Machine.execCloseEntry dt f c list s
  | .exitDone dt f c => Sys2Proof.Machine.execExitDone dt f c s
  | .hold dt f c => Sys2Proof.Machine.execHold dt f c s
  | .resume dt f c => Sys2Proof.Machine.execResume dt f c s
  | .abandon dt f c => Sys2Proof.Machine.execAbandon dt f c s
  | .acknowledgeFault dt f c => Sys2Proof.Machine.execAcknowledgeFault dt f c s
  | .acknowledgeFaultCross dt f => Sys2Proof.Machine.execAcknowledgeFaultCross dt f s
  | .setMode dt f c m => Sys2Proof.Machine.execSetMode dt f c m s
  | .advance dt f c => Sys2Proof.Machine.execAdvance dt f c s
  | .setService dt f c v => Sys2Proof.Machine.execSetService dt f c v s
  | .setAdmission dt f c level => Sys2Proof.Machine.execSetAdmission dt f c level s
  | .clearLockout dt f c => Sys2Proof.Machine.execClearLockout dt f c s
  | .lampCheck dt f => Sys2Proof.Machine.execLampCheck dt f s
  | .loadConfiguration dt f block store => Sys2Proof.Machine.execLoadConfiguration dt f block store s
  | .registerVessel dt f r => Sys2Proof.Machine.execRegisterVessel dt f r s
  | .amendVessel dt f handle mark a => Sys2Proof.Machine.execAmendVessel dt f handle mark a s
  | .withdrawVessel dt f handle mark => Sys2Proof.Machine.execWithdrawVessel dt f handle mark s
  | .setTime dt f day second weekday => Sys2Proof.Machine.execSetTime dt f day second weekday s
  | .loadTariff dt f t effective => Sys2Proof.Machine.execLoadTariff dt f t effective s
  | .blockAccount dt f account => Sys2Proof.Machine.execBlockAccount dt f account s
  | .unblockAccount dt f account => Sys2Proof.Machine.execUnblockAccount dt f account s
  | .peekRecord dt f => Sys2Proof.Machine.execPeekRecord dt f s
  | .takeRecord dt f expected => Sys2Proof.Machine.execTakeRecord dt f expected s
  | .closePeriod dt f => Sys2Proof.Machine.execClosePeriod dt f s
  | .readPeriodImage dt f account => Sys2Proof.Machine.execReadPeriodImage dt f account s
  | .readStatus dt f which => Sys2Proof.Machine.execReadStatus dt f which s
  | .readVessel dt f handle mark => Sys2Proof.Machine.execReadVessel dt f handle mark s
  | .readQueue dt f queue place => Sys2Proof.Machine.execReadQueue dt f queue place s
  | .readTariff dt f slot => Sys2Proof.Machine.execReadTariff dt f slot s
  | .readAccount dt f account => Sys2Proof.Machine.execReadAccount dt f account s
  | .unknownCommand dt link code tag => Sys2Proof.Machine.execUnknownCommand dt link code tag s
  | .frameInvalid dt link bytes => Sys2Proof.Machine.execFrameInvalid dt link bytes s
  | .frameGapTimeout dt link bytes => Sys2Proof.Machine.execFrameGapTimeout dt link bytes s
  | .busyLink dt link code tag => Sys2Proof.Machine.execBusyLink dt link code tag s
  | .frameDiscardedSlotsFull dt link code tag => Sys2Proof.Machine.execFrameDiscardedSlotsFull dt link code tag s
  | .frameSent dt link => Sys2Proof.Machine.execFrameSent dt link s
  | .holderSilence dt c => Sys2Proof.Machine.execHolderSilence dt c s
  | .claimantSilence dt c => Sys2Proof.Machine.execClaimantSilence dt c s
  | .startAnswer dt address accept => Sys2Proof.Machine.execStartAnswer dt address accept s
  | .stopAnswer dt address accept => Sys2Proof.Machine.execStopAnswer dt address accept s
  | .statusReply dt address position overload disagreement => Sys2Proof.Machine.execStatusReply dt address position overload disagreement s
  | .driveAnswerTimeout dt => Sys2Proof.Machine.execDriveAnswerTimeout dt s
  | .driveFrameDiscarded dt bytes => Sys2Proof.Machine.execDriveFrameDiscarded dt bytes s
  | .doneEvent dt d => Sys2Proof.Machine.execDoneEvent dt d s
  | .travelDeadlineExpiry dt d => Sys2Proof.Machine.execTravelDeadlineExpiry dt d s
  | .deadTimeExpiry dt c e => Sys2Proof.Machine.execDeadTimeExpiry dt c e s
  | .limitInputChange dt d active => Sys2Proof.Machine.execLimitInputChange dt d active s
  | .sillBeamBreak dt c e => Sys2Proof.Machine.execSillBeamBreak dt c e s
  | .sillBeamClear dt c e => Sys2Proof.Machine.execSillBeamClear dt c e s
  | .limitConflict dt c => Sys2Proof.Machine.execLimitConflict dt c s
  | .limitConflictRearm dt c => Sys2Proof.Machine.execLimitConflictRearm dt c s
  | .crossConflict dt => Sys2Proof.Machine.execCrossConflict dt s
  | .crossConflictRearm dt => Sys2Proof.Machine.execCrossConflictRearm dt s
  | .scanStart dt => Sys2Proof.Machine.execScanStart dt s
  | .scanCompletion dt answer => Sys2Proof.Machine.execScanCompletion dt answer s
  | .levelTimeout dt c => Sys2Proof.Machine.execLevelTimeout dt c s
  | .levelLost dt c => Sys2Proof.Machine.execLevelLost dt c s
  | .crossWaitExpiry dt c => Sys2Proof.Machine.execCrossWaitExpiry dt c s
  | .crossExchangeExpiry dt => Sys2Proof.Machine.execCrossExchangeExpiry dt s
  | .lampLatch dt h l monitors => Sys2Proof.Machine.execLampLatch dt h l monitors s
  | .lampStray dt h l monitors => Sys2Proof.Machine.execLampStray dt h l monitors s
  | .clockTick dt => Sys2Proof.Machine.execClockTick dt s
  | .resetLineHeld dt => Sys2Proof.Machine.execResetLineHeld dt s
  | .mainPowerHeld dt => Sys2Proof.Machine.execMainPowerHeld dt s
  | .partReleased dt => Sys2Proof.Machine.execPartReleased dt s
  | .batteryLow dt => Sys2Proof.Machine.execBatteryLow dt s
  | .configReadEnd dt storeAnswers => Sys2Proof.Machine.execConfigReadEnd dt storeAnswers s
  | .censusQueries dt => Sys2Proof.Machine.execCensusQueries dt s
  | .lampCurrentSample dt monitors => Sys2Proof.Machine.execLampCurrentSample dt monitors s
  | .doneInputChange dt d active => Sys2Proof.Machine.execDoneInputChange dt d active s

end Sys2Proof.Machine
end

