-- ==== Sys2Proof/Machine/Bodies.lean ====
section
/-! DEFINITION. The bodies of replies and notices (R182, R184, R197): the fields of each in the order in which its rule lists them
(DESIGN CHOICE, log 50), and the frames that a link sends. -/

namespace Sys2Proof.Machine

/-! ### Fields -/

/-- One field of a body. A lock time and a number have the form that R182 gives them; a chamber, subject, link, holder, direction,
class or result has its code of R186, in one byte; of any other field the manual states no form (log 50). -/
inductive BodyField where
  | time (t : LockTime)
  | number (name : String) (n : Nat)
  | signed (name : String) (x : Int)
  | code (n : Nat)
  | raw (bytes : List Byte)
  | text (name : String) (characters : List Nat)
  | unstated (name : String) (n : Nat)
  deriving DecidableEq, Repr

/-- The bytes of a field. A signed number is sent in two's complement, as the configuration block stores one (R203; log 50). -/
def BodyField.bytes : BodyField → List Byte
  | .time t => lockTimeBytes t
  | .number name n => beBytes (Config.numberWidth name) n
  | .signed name x => beBytes (Config.numberWidth name) (x % 256 ^ Config.numberWidth name).toNat
  | .code n => [byte n]
  | .raw bytes => bytes
  | .text name characters => Config.textBytes name characters
  | .unstated name n => Config.unstatedBytes name n

def bodyBytes (fields : List BodyField) : List Byte := fields.flatMap BodyField.bytes

def flagField (name : String) (b : Bool) : BodyField := .unstated name b.toNat

/-- A field that may be absent. -/
def optionalFields {α : Type} (name : String) (x : Option α) (fields : α → List BodyField) : List BodyField :=
  .unstated name x.isSome.toNat :: (x.map fields).getD []

/-- A list of entries. -/
def entryFields {α : Type} (name : String) (xs : List α) (fields : α → List BodyField) : List BodyField :=
  .unstated name xs.length :: xs.flatMap fields

def chamberField (c : Chamber) : BodyField := .code (Subject.chamber c).code
def holderField (o : Option Operator) : BodyField := .code (holderCode o)
def directionField (d : Direction) : BodyField := .code (directionCode d)
def classField (k : VesselClass) : BodyField := .code (classCode k)
def markField (m : Mark) : BodyField := .text "mark" (m.map (·.toNat))
def phaseField (p : Phase) : BodyField := .unstated "phase" p.ctorIdx
def resumeFields (p : Option Phase) : List BodyField := optionalFields "resume phase" p fun p => [phaseField p]
def deviceField (d : Device) : BodyField := .unstated "device" (Device.all.idxOf d)
def targetField (t : Target) : BodyField := .unstated "target" t.ctorIdx
def deferralField (r : Deferral) : BodyField := .unstated "deferral reason" r.ctorIdx
def deferralFields (r : Option Deferral) : List BodyField := optionalFields "deferral" r fun r => [deferralField r]
def numberFields (name : String) (x : Option Nat) : List BodyField := optionalFields name x fun n => [.number name n]
def levelFields (name : String) (x : Option Int) : List BodyField := optionalFields name x fun n => [.signed name n]
def instantFields (i : Instant) : List BodyField := [.number "day number" i.day, .number "second of day" i.second]

def perChamber {α : Type} (g : α → List BodyField) (p : PerChamber α) : List BodyField := g p.a ++ g p.b
def perEnd {α : Type} (g : α → List BodyField) (p : PerEnd α) : List BodyField := g p.upper ++ g p.lower
def perSide {α : Type} (g : α → List BodyField) (p : PerSide α) : List BodyField := g p.outer ++ g p.inner
def perSensor {α : Type} (g : α → List BodyField) (p : PerSensor α) : List BodyField := g p.one ++ g p.two
def perLamp {α : Type} (g : α → List BodyField) (p : PerLamp α) : List BodyField := g p.red1 ++ g p.red2 ++ g p.green
def perPlace {α : Type} (g : α → List BodyField) (p : PerPlace α) : List BodyField :=
  Place.all.flatMap fun x => g (p.get x)
def perDevice {α : Type} (g : α → List BodyField) (p : PerDevice α) : List BodyField :=
  Device.all.flatMap fun d => g (p.get d)

/-! ### Records -/

/-- Holder, pending claim and release waiting (R188). -/
def Authority.fields (a : Authority) : List BodyField :=
  [holderField a.holder, holderField a.pendingClaim, flagField "release waiting" a.releaseWaiting]

/-- The hold reasons (R42). -/
def HoldSet.fields (h : HoldSet) : List BodyField :=
  [flagField "COMMANDED" h.commanded, flagField "SEIZED" h.seized, flagField "NO_HOLDER" h.noHolder, flagField "SILL" h.sill,
    flagField "SIGNAL" h.signal, flagField "FAULT" h.fault]

/-- One fault (R90): kind, device or none, lock time. -/
def FaultEntry.fields (f : FaultEntry) : List BodyField :=
  .unstated "fault kind" f.kind.ctorIdx :: (optionalFields "fault device" f.device fun d => [deviceField d]) ++ [.time f.time]

def faultFields (name : String) (f : Option FaultEntry) : List BodyField := optionalFields name f FaultEntry.fields

/-- A fault record (R90). -/
def FaultRecord.fields (r : FaultRecord) : List BodyField :=
  faultFields "first fault" r.first ++ faultFields "second fault" r.second ++ [flagField "acknowledged" r.acknowledged]

/-- The base charges of the four charged classes and then their metre rates, as R155 lists them. That they are sent in this order
is the model's choice (DESIGN CHOICE, log 50). -/
def chargedFields (r : PerCharged Rate) : List BodyField :=
  let each (name : String) (g : Rate → Nat) : List BodyField :=
    [r.pleasure, r.cargo, r.tanker, r.passenger].map fun x => .number name (g x)
  each "base charge" (·.base) ++ each "metre rate" (·.metre)

/-- The snapshot of a lockage (R159). -/
def Snapshot.fields (s : Snapshot) : List BodyField :=
  .number "tariff version" s.version :: chargedFields s.rates ++
    [.number "water rate" s.water, .number "band" s.band, .number "band factor" s.factor, flagField "clock set" s.clockSet]

def PlanEntry.fields (e : PlanEntry) : List BodyField := [.number "handle" e.handle, flagField "aboard" e.aboard]

/-- The lockage record in the order of R43, its snapshot with it. -/
def LockageRecord.fields (l : LockageRecord) : List BodyField :=
  [.number "lockage serial" l.serial, directionField l.direction] ++ entryFields "plan" l.plan PlanEntry.fields ++
    [.number "used length" l.usedLength, .unstated "reservation" l.reservation.ctorIdx] ++ l.snapshot.fields ++
    [.time l.startTime] ++ levelFields "start mark" l.startMark ++ levelFields "end mark" l.endMark ++
    (optionalFields "cross start marks" l.crossStart (perChamber fun x => [.signed "level" x])) ++
    (optionalFields "cross end marks" l.crossEnd (perChamber fun x => [.signed "level" x])) ++
    [flagField "cross used" l.crossUsed, flagField "emergency" l.emergency]

/-- The sequencer in the order of R42, its fault record last. -/
def SequencerStatus.fields (q : SequencerStatus) : List BodyField :=
  [phaseField q.phase] ++ optionalFields "lockage record" q.lockage LockageRecord.fields ++ q.holds.fields ++ resumeFields q.resume ++
    [.unstated "step mode" q.stepMode.ctorIdx] ++ (optionalFields "step wait" q.stepWait fun x => [deviceField x.1, targetField x.2]) ++
    [flagField "entry excuse" q.entryExcuse, flagField "level reached" q.levelReached] ++ numberFields "level timer" q.levelTimer ++
    [flagField "level-lost raised" q.levelLostRaised] ++ q.faults.fields

/-- A saved plan (R136): direction, formed time, vessels. -/
def SavedPlan.fields (p : SavedPlan) : List BodyField :=
  [directionField p.direction, .time p.formed] ++ entryFields "saved vessels" p.handles fun h => [.number "handle" h]

/-- A lamp record (R140). -/
def LampRecord.fields (l : LampRecord) : List BodyField :=
  [flagField "commanded" l.commanded, flagField "failed" l.failed, .number "low count" l.lowCount, flagField "stray" l.stray,
    .number "stray count" l.strayCount]

def aspectField (a : Aspect) : BodyField := .unstated "aspect" a.ctorIdx

/-- A head record with its lamps (R140). -/
def HeadRecord.fields (h : HeadRecord) : List BodyField :=
  [aspectField h.required, aspectField h.shown] ++ perLamp LampRecord.fields h.lamps

/-- The place of a task among START OPEN, START CLOSE, STOP and STATUS. -/
def taskPlace : Task → Nat
  | .start t => t.ctorIdx
  | .stop => 2
  | .status => 3

def orderPlace : Order → Nat
  | .move t => t.ctorIdx
  | .stop => 2

/-- A device record in the order of R1, behind its address. -/
def DeviceRecord.fields (r : DeviceRecord) : List BodyField :=
  [.unstated "position" r.position.ctorIdx] ++ (optionalFields "outstanding command" r.outstanding fun o => [.unstated "command" (orderPlace o)]) ++
    (optionalFields "queue entry" r.queued fun q => [.unstated "transaction" (taskPlace q.task), .number "time placed" q.stamp]) ++
    (optionalFields "on line" r.onLine fun t => [.unstated "transaction" (taskPlace t)]) ++ [flagField "awaiting DONE" r.awaitingDone] ++
    numberFields "travel deadline" r.travelDeadline ++
    (optionalFields "reported end" r.reportedEnd fun e => [.unstated "end position" e.ctorIdx]) ++
    numberFields "last-closed time" r.lastClosed ++ (optionalFields "fault" r.faultKind fun k => [.unstated "fault kind" k.ctorIdx]) ++
    (optionalFields "next start" r.nextStart fun t => [targetField t]) ++ [flagField "query flag" r.queryFlag]

/-- The cross arbiter in the order of R74. -/
def CrossArbiter.fields (x : CrossArbiter) : List BodyField :=
  perChamber
      (fun k => optionalFields "claim" k fun k => [.unstated "need" k.need.ctorIdx, .number "registered" k.registered,
        .number "wait expiry" k.waitExpiry, flagField "wait running" k.waitRunning]) x.claims ++
    (optionalFields "grant" x.grant fun g => [chamberField g.drain, chamberField g.fill] ++
      perChamber (fun n => [.number "lockage serial" n]) g.serials) ++
    [.unstated "exchange stage" x.stage.ctorIdx, flagField "valve accepted" x.valveAccepted] ++
    numberFields "exchange timer" x.exchangeTimer ++ [.number "stop counter" x.stopCounter]

/-- The configuration state with its failed check (R200, R203). -/
def ConfigState.fields : ConfigState → List BodyField
  | .valid => [.unstated "configuration" 0]
  | .invalid none => [.unstated "configuration" 1]
  | .invalid (some .format) => [.unstated "configuration" 2]
  | .invalid (some .check) => [.unstated "configuration" 3]
  | .invalid (some (.range field)) => [.unstated "configuration" 4, .text "field" (field.toList.map (·.toNat))]
  | .invalid (some .address) => [.unstated "configuration" 5]

def LostReason.field (r : LostReason) : BodyField := .unstated "lost reason" r.ctorIdx

def Reading.fields : Reading → List BodyField
  | .valid x => [flagField "valid" true, .signed "level" x]
  | .lost r => [flagField "valid" false, r.field]

def Validity.fields : Validity → List BodyField
  | .valid => [flagField "valid" true]
  | .lost r => [flagField "valid" false, r.field]

def PairState.fields : PairState → List BodyField
  | .good x => [.unstated "quality" 0, .signed "level" x]
  | .single x => [.unstated "quality" 1, .signed "level" x]
  | .disagree => [.unstated "quality" 2]
  | .invalid => [.unstated "quality" 3]

/-! ### Reply data -/

/-- Section 1 of READ STATUS in the order of R187. -/
def LockStatus.fields (v : LockStatus) : List BodyField :=
  [.time v.time, flagField "clock set" v.clockSet, .number "tariff version" v.currentVersion,
      .number "tariff version" v.pendingVersion] ++
    optionalFields "pending instant" v.pendingInstant instantFields ++
    [.number "finalized" v.finalized, .number "reservations" v.reservations, .number "free" v.free, .number "period" v.period,
      .number "lockage serial" v.serial, .unstated "start stage" v.stage.ctorIdx] ++
    v.config.fields ++ numberFields "format" v.format ++ perChamber Authority.fields v.authority ++ v.cross.fields

/-- Sections 2 and 3 of READ STATUS in the order of R187. -/
def ChamberStatus.fields (v : ChamberStatus) : List BodyField :=
  v.sequencer.fields ++ entryFields "plan stack" v.stack SavedPlan.fields ++ [.number "admission level" v.admission] ++
    perEnd (perSide HeadRecord.fields) v.heads

/-- Section 4 of READ STATUS (R1, R187). -/
def DeviceStatus.fields (v : DeviceStatus) : List BodyField :=
  Device.all.flatMap fun d => numberFields "address" (v.addresses.map fun a => a.get d) ++ (v.records.get d).fields

/-- Section 5 of READ STATUS (R29, R41, R187). -/
def LevelStatus.fields (v : LevelStatus) : List BodyField :=
  perPlace (perSensor fun r => numberFields "current" r.current ++ r.reading.fields) v.channels ++
    (optionalFields "calibrations" v.calibrations
      (perPlace (perSensor fun k => [.signed "zero" k.zero, .number "span" k.span]))) ++
    perPlace
      (fun r => r.state.fields ++ optionalFields "last valid" r.last fun l => [.signed "level" l.value, .number "time" l.time]) v.pairs ++
    perPlace (numberFields "lost age") v.lostAges ++
    perChamber (perEnd fun n => [.number "counter" n]) v.counters

/-- The state of a vessel with its chamber (R104). -/
def VesselState.fields : VesselState → List BodyField
  | .waiting => [.unstated "state" 0]
  | .assigned c => [.unstated "state" 1, chamberField c]
  | .saved c => [.unstated "state" 2, chamberField c]
  | .aboard c => [.unstated "state" 3, chamberField c]

/-- A vessel record in the order of R104. -/
def Vessel.fields (v : Vessel) : List BodyField :=
  [.number "handle" v.handle, markField v.mark, classField v.cls, .number "length" v.length, .number "beam" v.beam,
      .number "draught" v.draught, .number "account" v.account, directionField v.direction, .time v.arrival] ++
    v.state.fields ++ deferralFields v.deferral

/-- The reply of READ VESSEL (R121). -/
def VesselView.fields (v : VesselView) : List BodyField :=
  v.vessel.fields ++ [.number "priority" v.priority, flagField "exempt" v.exempt] ++ numberFields "place in the plan" v.planPlace ++
    optionalFields "saved place" v.savedPlace fun x => [.number "place of the saved plan" x.1, .number "place in the saved plan" x.2]

/-- One entry of READ QUEUE (R122). -/
def QueueView.fields (v : QueueView) : List BodyField :=
  [.number "place" v.place, .number "handle" v.handle, markField v.mark, classField v.cls, .number "priority" v.priority,
      .time v.arrival] ++ deferralFields v.deferral

/-- Every field of a tariff in the order of R155. -/
def tariffFields (t : Tariff) : List BodyField :=
  .number "tariff version" t.version :: chargedFields t.rates ++
    [.number "band factor" t.factors.f0, .number "band factor" t.factors.f1, .number "band factor" t.factors.f2,
      .number "band factor" t.factors.f3] ++
    (t.bandMap.map fun b => .number "band" b) ++ [.number "water rate" t.water]

/-- An account (R167, R170). -/
def Account.fields (a : Account) : List BodyField :=
  [flagField "blocked" a.blocked, .number "period total" a.total, flagField "saturated" a.saturated, .number "period count" a.count] ++
    optionalFields "last charged" a.lastCharged fun t => [.time t]

/-- An entry of the period image (R178). -/
def ImageEntry.fields (e : ImageEntry) : List BodyField :=
  [.number "period total" e.total, flagField "saturated" e.saturated, .number "period count" e.count]

/-- The fields of a reply behind its result code. -/
def ReplyData.fields : ReplyData → List BodyField
  | .none => []
  | .claimed holder pending => [holderField holder, holderField pending]
  | .authority a => a.fields
  | .presence own p => .code (linkCode own) :: perChamber Authority.fields p
  | .handle h => [.number "handle" h]
  | .record bytes n => [.raw bytes, .number "finalized" n]
  | .closedPeriod n => [.number "period" n]
  | .periodEntry e period closeTime clockSet =>
    e.fields ++ [.number "period" period, .time closeTime, flagField "clock set" clockSet]
  | .lock v => v.fields
  | .chamber v => v.fields
  | .devices v => v.fields
  | .levels v => v.fields
  | .vessel v => v.fields
  | .queue length deferred es => [.number "queue length" length, .number "deferred" deferred] ++ entryFields "entries" es QueueView.fields
  | .tariff t effective => tariffFields t ++ optionalFields "effective instant" effective instantFields
  | .account a period => a.fields ++ [.number "period" period]

/-! ### Notice data -/

/-- A deferred vessel (R120). -/
def DeferredEntry.fields (e : DeferredEntry) : List BodyField :=
  [.number "handle" e.handle, markField e.mark, .number "priority" e.priority, deferralField e.reason]

/-- A head of LAMP_FAILED (R148). -/
def HeadView.fields (h : HeadView) : List BodyField :=
  [aspectField h.required, aspectField h.shown, flagField "red-dark" h.redDark]

/-- The three lamps of a head of LAMP_FAILED (R148). -/
def HeadView.lampFields (h : HeadView) : List BodyField :=
  [LampName.red1, .red2, .green].flatMap fun l => [flagField "failed" (h.failed.get l), flagField "stray" (h.stray.get l)]

/-- The place of a head among the eight of R140. -/
def headPlace (h : Head) : Nat := h.chamber.ctorIdx * 4 + h.atEnd.ctorIdx * 2 + h.side.ctorIdx

/-- The fields of a notice behind its subject (R198 names the producing rule of each kind). -/
def NoticeData.fields : NoticeData → List BodyField
  | .phaseChanged phase left resume lockage =>
    [phaseField phase, phaseField left] ++ resumeFields resume ++
      optionalFields "lockage" lockage fun x => [.number "lockage serial" x.1, directionField x.2]
  | .stepWait phase d t => [phaseField phase, deviceField d, targetField t]
  | .claimPending o phase => [holderField (some o), phaseField phase]
  | .emergencyPreempt c d h m saved formed vessels depth =>
    [chamberField c, directionField d, .number "handle" h, markField m, directionField saved, .time formed,
      .number "vessels" vessels, .number "stack depth" depth]
  | .holdEntered holds resume reason => holds.fields ++ resumeFields resume ++ [.unstated "hold reason" reason.ctorIdx]
  | .faultRaised f cls phase =>
    f.fields ++ (optionalFields "fault class" cls fun k => [.unstated "class" k.ctorIdx]) ++ optionalFields "phase of the chamber" phase fun p => [phaseField p]
  | .lockedOut c first second resume serial =>
    [chamberField c] ++ faultFields "first fault" first ++ faultFields "second fault" second ++ resumeFields resume ++
      numberFields "lockage serial" serial
  | .authorityChanged a before cause => a.fields ++ [holderField before, .unstated "cause" cause.ctorIdx]
  | .vesselDeferred q n es => [.unstated "queue" q.ctorIdx, .number "deferred" n] ++ entryFields "entries" es DeferredEntry.fields
  | .levelQuality places => (places.flatMap fun p => p.pair.fields) ++ places.flatMap fun p => p.one.fields ++ p.two.fields
  | .lampFailed h l stray heads =>
    [.unstated "head" (headPlace h), .unstated "lamp" l.ctorIdx, flagField "stray" stray] ++
      perEnd (perSide HeadView.fields) heads ++ perEnd (perSide HeadView.lampFields) heads
  | .clockSet t before wasSet => [.time t, .time before, flagField "clock set" wasSet]
  | .tariffSwitched version replaced t => [.number "tariff version" version, .number "tariff version" replaced, .time t]
  | .journalLow free finalized reservations oldest =>
    [.number "free" free, .number "finalized" finalized, .number "reservations" reservations] ++
      optionalFields "oldest record" oldest fun x => [.number "lockage serial" x.1, .number "period" x.2]
  | .recordPosted serial c period total finalized free =>
    [.number "lockage serial" serial, chamberField c, .number "period" period, .number "record total" total,
      .number "finalized" finalized, .number "free" free]
  | .periodClosed closed new t => [.number "period" closed, .number "period" new, .time t]
  | .started kind config isSet period finalized serial =>
    [.unstated "start kind" kind.ctorIdx] ++ config.fields ++
      [flagField "clock set" isSet, .number "period" period, .number "finalized" finalized, .number "lockage serial" serial]

/-! ### The frames that a link sends (R182, R184) -/

/-- A reply's data after its result code (R182). -/
def replyDataBytes (d : ReplyData) : List Byte := bodyBytes d.fields

/-- A notice's data after its subject (R182). -/
def noticeDataBytes (d : NoticeData) : List Byte := bodyBytes d.fields

/-- A reply frame (R182): the request's code plus 128, its tag, the result code, the data. -/
def ReplyFrame.bytes (r : ReplyFrame) : List Byte :=
  frameBytes r.kind r.tag (byte r.result.code :: replyDataBytes r.data)

/-- A notice frame (R182, R197): its kind code, the link's sequence number, the subject, the data. -/
def Notice.bytes (n : Notice) (tag : Byte) : List Byte :=
  frameBytes (byte n.kind.code) tag (byte n.subject.code :: noticeDataBytes n.data)

/-- The frame that a link is sending, as its bytes on the line (R184). -/
def LinkPort.sendingBytes (p : LinkPort) : Option (List Byte) :=
  match p.sending with
  | none => none
  | some .reply => p.reply.map ReplyFrame.bytes
  | some .busy => p.busy.map ReplyFrame.bytes
  | some (.notice tag n) => some (n.bytes tag)

end Sys2Proof.Machine
end

