-- ==== Sys2Proof/Safety.lean ====
section
/-! DEFINITION. The terms in which claims about the NL-2 speak: what no reaction of the blocks changes, what a served link port
keeps, and the invariants of a safe run. -/

namespace Sys2Proof.Machine

/-! ### What no reaction changes -/

/-- A device record without the three fields that a request may write while nothing happens at the drive (R6, R7, R25). -/
def DeviceRecord.still (r : DeviceRecord) : DeviceRecord := { r with outstanding := none, queued := none, nextStart := none }

/-- A device record without what a request, the drive line or a query writes: how the device stands. -/
def DeviceRecord.stance (r : DeviceRecord) : DeviceRecord := { r.still with onLine := none, queryFlag := false }

/-- An account without what an addition writes (R168). -/
def Account.still (a : Account) : Account := { Account.initial with blocked := a.blocked }

/-- The state with everything blanked that the blocks may write while they react to an event: requests to devices and bars,
the sequencers but their step modes, the cross arbiter, vessels, queues and stacks, the journal, the totals and the serial,
the authority, the start stage. What is left no reaction changes. -/
def State.skeleton (s : State) : State :=
  { s with
    drive := { s.drive with devices := s.drive.devices.map DeviceRecord.still, barred := .both false }
    seqs := s.seqs.map fun q => { Sequencer.initial with stepMode := q.stepMode }
    cross := .initial
    traffic := { TrafficUnit.initial with admission := s.traffic.admission }
    acct :=
      { AccountingUnit.cold with
        accounts := s.acct.accounts.map Account.still, period := s.acct.period, image := s.acct.image }
    auth := .both .initial
    start := { s.start with stage := .reset }
    event := .blank }

/-- The skeleton without the drive line, the query flags, the heads and the links: what is left, no event changes through the
reactions to it, the examination of the drive queue, the heads and the notices. -/
def State.frame (s : State) : State :=
  { s.skeleton with
    drive :=
      { s.skeleton.drive with
        devices := s.skeleton.drive.devices.map DeviceRecord.stance
        sentAt := none }
    heads := PerHead.all .initial
    links := .all .initial }

/-- `t` is what an event leaves whose own effect is `u`: the blocks react, which leaves the skeleton of `u` as it is; then the
drive line's queue is examined once, the heads are lit, and the notices are sent. -/
def Reacts (u t : State) : Prop :=
  t = u.settle.dispatch.lightHeads.finishQuiet ∧ u.settle.skeleton = u.skeleton

/-! ### Link ports -/

/-- A port that has only had notices joined to its queue and its free transmitter served (R184, R197). -/
def Served (p q : LinkPort) : Prop := ∃ ns, q = (p.join ns).transmit

/-- A port that has taken a valid frame and holds the reply to it (R183, R184). -/
def LinkPort.answered (p : LinkPort) (now : Nat) (r : ReplyFrame) : LinkPort :=
  { p with lastFrame := some now, receive := [], reply := some r }

/-- Every port has only been served. -/
def LinksServed (s t : State) : Prop := ∀ l, Served (s.port l) (t.port l)

/-- The frame's port holds the reply, and beyond that every port has only been served. -/
def LinksAnswered (s t : State) (dt : Nat) (f : Frame) (code : Byte) (r : Result) (d : ReplyData) : Prop :=
  ∀ l, Served (if l = f.link then (s.port l).answered (s.now + dt) ⟨replyKind code, f.tag, r, d⟩ else s.port l) (t.port l)

/-- No notice has joined a queue: all that has happened at the ports is that free transmitters took what waited (R184). -/
def LinksQuiet (s t : State) : Prop := ∀ l, t.port l = (s.port l).transmit

/-- The frame's port holds the reply, no notice has joined a queue, and free transmitters have taken what waited (R184). -/
def LinksReplied (s t : State) (dt : Nat) (f : Frame) (code : Byte) (r : Result) (d : ReplyData) : Prop :=
  ∀ l, t.port l =
    (if l = f.link then (s.port l).answered (s.now + dt) ⟨replyKind code, f.tag, r, d⟩ else s.port l).transmit

/-- The port is sending the notice or has it in its queue. -/
def LinkPort.carries (p : LinkPort) (n : Notice) : Prop := n ∈ p.queue ∨ ∃ tag, p.sending = some (.notice tag n)

/-- The part takes a frame at its port: it is not held, and the reply slot is empty (R184, R201). -/
def Ready (s : State) (f : Frame) : Prop := s.isHeld = false ∧ (s.port f.link).reply = none

/-- The state in which a request finds the part: the time has passed, and its port has taken the frame. -/
def State.taken (s : State) (dt : Nat) (f : Frame) : State := (s.beginEvent dt).hear f.link

/-- The state with the reply to a frame in its slot. -/
def State.replied (s : State) (f : Frame) (code : Byte) (r : Result) (d : ReplyData) : State :=
  s.modPort f.link fun p => { p with reply := some ⟨replyKind code, f.tag, r, d⟩ }

/-- A request is carried out: it answers a next state, which is what its own effect `op` on the state that it finds leads to,
with OK and the data in the reply slot; beyond the blocks that may react, nothing but the time has changed. -/
def CarriedOut (s : State) (dt : Nat) (f : Frame) (code : Byte) (d : ReplyData) (op : State → State) (o : Outcome) : Prop :=
  ∃ t, o = .next t ∧ t = ((op (s.taken dt f)).replied f code .ok d).finish ∧ LinksAnswered s t dt f code .ok d ∧
    t.frame = { s.frame with now := s.now + dt }

/-- An event takes place: it answers a next state, which is what its own effect `op` leads to; every port has only been
served, and beyond the blocks that may react the state stands as `fr` says. The order of what `finish` adds is logs 6 and 7. -/
def TakesPlace (s : State) (dt : Nat) (op : State → State) (fr : State) (o : Outcome) : Prop :=
  ∃ t, o = .next t ∧ t = (op (s.beginEvent dt)).finish ∧ LinksServed s t ∧ t.frame = fr

/-- A request that brings only a reply: nothing else changes but the time, and no notice is produced. -/
def OnlyAnswered (s : State) (dt : Nat) (f : Frame) (code : Byte) (r : Result) (d : ReplyData) (o : Outcome) : Prop :=
  ∃ t, o = .next t ∧ t = { s with now := s.now + dt, links := t.links, event := .blank } ∧ LinksReplied s t dt f code r d

/-- An event changes nothing but the time and what the free transmitters send; no notice is produced. -/
def OnlyServed (s : State) (dt : Nat) (o : Outcome) : Prop :=
  ∃ t, o = .next t ∧ t = { s with now := s.now + dt, links := t.links, event := .blank } ∧ LinksQuiet s t

/-! ### The drive line -/

/-- One transaction at a time (R10): the line waits for an answer exactly when a device's transaction is on it, and never for
two devices. -/
def OneTransaction (s : State) : Prop :=
  (s.drive.sentAt = none ↔ ∀ d, (s.dev d).onLine = none) ∧
    ∀ d e, (s.dev d).onLine ≠ none → (s.dev e).onLine ≠ none → d = e

/-- Confirmed CLOSED (R2): the reported end is CLOSED and the closed-limit input is ACTIVE. -/
def StandsClosed (s : State) (d : Device) : Prop :=
  (s.dev d).reportedEnd = some .closed ∧ s.drive.limits.get d = .active

/-- A device that lets the other end of its chamber open (R17): confirmed CLOSED, with no START OPEN in the queue or on the line and
no next start of OPEN, and not OPENING. -/
def AwayFromOpening (s : State) (d : Device) : Prop :=
  StandsClosed s d ∧ (s.dev d).queued.map (·.task) ≠ some (.start .toOpen) ∧ (s.dev d).onLine ≠ some (.start .toOpen) ∧
    (s.dev d).nextStart ≠ some .toOpen ∧ (s.dev d).position ≠ .opening

/-- The conditions of section 1.6 on a START of a device (R17 to R21). -/
def OpenConditions (s : State) : Device → Target → Prop
  | .gate c e, .toOpen =>
    AwayFromOpening s (.gate c e.other) ∧ AwayFromOpening s (.sluice c e.other) ∧ 3 ≤ (s.levels.counters.get c).get e
  | .gate c e, .toClose => (s.drive.beams.get c).get e = .active
  | .sluice c e, .toOpen =>
    AwayFromOpening s (.gate c e.other) ∧ AwayFromOpening s (.sluice c e.other) ∧ StandsClosed s .xv ∧
      ∀ x, ((s.dev (.sluice c e.other)).lastClosed = some x ∨ (s.dev .xv).lastClosed = some x) →
        x + s.cfg.sluiceDeadTime * 1000 ≤ s.now
  | .sluice _ _, .toClose => True
  | .xv, .toOpen =>
    (∃ g, s.cross.grant = some g ∧ ∀ c, s.phase c = .crossing ∧ (g.drain = c ∨ g.fill = c)) ∧
      ∀ c e, StandsClosed s (.gate c e) ∧ StandsClosed s (.sluice c e)
  | .xv, .toClose => True

/-- What holds when a START goes on the line (R10, R17 to R21, R25, R26): the configuration is VALID, the part is not held, the
device's chamber is not barred, and the conditions of section 1.6 on this START hold. -/
def StartSafe (s : State) (d : Device) (t : Target) : Prop :=
  s.start.config = .valid ∧ s.isHeld = false ∧ (∀ c, d.chamber? = some c → s.drive.barred.get c = false) ∧ OpenConditions s d t

/-! ### Levels (R30, R31, R32, R34, R74, R79) -/

/-- A level in millimetres that a channel can have (R30). -/
def levelInRange (x : Int) : Prop := -20000 ≤ x ∧ x ≤ 20000

def Reading.inRange : Reading → Prop
  | .valid x => levelInRange x
  | .lost _ => True

def PairRecord.inRange (r : PairRecord) : Prop :=
  (∀ x, r.state.value? = some x → levelInRange x) ∧ ∀ l, r.last = some l → levelInRange l.value

/-- Every level is one that R30 can give, every equalization counter lies in 0 to 3. -/
def LevelsSound (s : State) : Prop :=
  (∀ p i, ((s.levels.channels.get p).get i).reading.inRange) ∧ (∀ p, (s.levels.pairs.get p).inRange) ∧
    ∀ c e, (s.levels.counters.get c).get e ≤ 3

/-! ### Sequencers (R42, R43, R92) -/

/-- A chamber in a working phase, or one that will resume in one, has a lockage record; a chamber in HOLD, SAFING or
LOCKED_OUT has a resume phase; a resume phase is one of those that R42 names: IDLE, OUT_OF_SERVICE or a working phase but
CROSSING. -/
def Sequencer.sound (q : Sequencer) : Prop :=
  (q.phase.working = true → q.lockage.isSome = true) ∧
    (∀ p, q.resume = some p → p.working = true → q.lockage.isSome = true) ∧
    ((q.phase = .hold ∨ q.phase = .safing ∨ q.phase = .lockedOut) → q.resume.isSome = true) ∧
    ∀ p, q.resume = some p → p = .idle ∨ p = .outOfService ∨ (p.working = true ∧ p ≠ .crossing)

def SequencersSound (s : State) : Prop := ∀ c, (s.seq c).sound

/-! ### Signals (R141 to R143) -/

/-- A head shows what R143 gives for its aspect and its failed latches, with the lamps of that row commanded on. -/
def HeadRecord.lit (h : HeadRecord) (a : Aspect) : Prop :=
  h.required = a ∧ h.shown = shownFor a h.failed ∧ h.lamps.map (·.commanded) = lampsFor a h.failed

/-- While the part is not held every head is lit for the aspect that its chamber's phase requires. -/
def HeadsLit (s : State) : Prop :=
  s.isHeld = false → ∀ h, (PerHead.get s.heads h).lit (s.requiredAspect h)

/-! ### Clock, accounts and journal (R151, R167, R168, R171, R177, R179) -/

/-- The clock's fields lie in the ranges of R151. -/
def ClockInRange (s : State) : Prop := s.lockTime.day ≤ 65535 ∧ s.lockTime.second ≤ 86399 ∧ s.lockTime.weekday ≤ 6

/-- An account's period total and period count do not pass their bounds (R167, R168). -/
def Account.bounded (a : Account) : Prop := a.total ≤ periodTotalBound ∧ a.count ≤ periodCountBound

/-- The 256 accounts keep their bounds, the period its range, the serial its four bytes (R167, R168, R177, R179). -/
def AccountsBounded (s : State) : Prop :=
  s.acct.accounts.length = accountTableSize ∧ (∀ a ∈ s.acct.accounts, a.bounded) ∧
    1 ≤ s.acct.period ∧ s.acct.period ≤ 65535 ∧ s.acct.serial ≤ 4294967295

/-- The chamber's lockage record holds a reservation (R126). -/
def State.holdsReservation (s : State) (c : Chamber) : Bool :=
  match (s.seq c).lockage with
  | some l => l.reservation ≠ .none
  | none => false

/-- The number of chambers whose records hold a reservation. -/
def State.heldReservations (s : State) : Nat := (s.holdsReservation .A).toNat + (s.holdsReservation .B).toNat

/-- The journal never holds more than its 64 entries, reserved and finalized together, and every reservation that a lockage
record holds is counted (R171, R172). -/
def JournalSound (s : State) : Prop :=
  s.heldReservations ≤ s.acct.reservations ∧ s.acct.reservations + s.acct.journal.length ≤ journalSize

/-! ### Notices (R197) -/

/-- No link's queue holds two notices of one kind and subject. -/
def NoticesDistinct (s : State) : Prop :=
  ∀ l, (s.port l).queue.Pairwise fun m n => m.samePair n = false

end Sys2Proof.Machine
end

