-- ==== Sys2Proof/Certificates/Slice0/Obligations.lean ====
section
/-! DEFINITION. The statements about the NL-2 for the provers. `Ready s f` says that the part takes the frame `f`; a command's
first operand is the time that has passed since the command before it. -/

open Sys2Proof Sys2Proof.Machine

/-! ### The machine -/

/-- One step takes the command at the front of the queue and runs it with the queue's rest; with no command waiting the block
idles (the model's choice, log 4). -/
def Obligations.StepTakesFrontCommand : Prop :=
  (∀ (c : Instr) (rest : List Instr) (s : State),
    step { s with pending := c :: rest } = exec c { s with pending := rest }) ∧
  ∀ s : State, s.pending = [] → step s = .next s

/-- Every command answers a next state, leaves the queue of waiting commands alone, and ends its event. That a command always
answers so, with no fault and no refusal of the model, is the model's choice (log 49), and so is that an event which cannot occur in
the state only lets the time pass (log 5). -/
def Obligations.EveryCommandAnswers : Prop :=
  ∀ (c : Instr) (s : State), ∃ t, exec c s = .next t ∧ t.pending = s.pending ∧ t.event = Event.blank

/-- What the release of a first power-on leaves in every block, field by field, as each block's own rule states it for a cold start
(R26, R39, R73, R86, R103, R124, R139, R150, R166, R181, R199, R200). That the state after reset is that moment is log 2 (DEDUCED),
so that the clock is UNSET, the accounts are empty and the retained domain is valid; the first tick of the clock is log 27, the
first lamp sample log 51, the moments of the input samples and of the last changes of inputs, line and power logs 9 and 59, the
store's contents log 3; that no conflict of XV waits for the desk is log 61. -/
def Obligations.ResetState : Prop :=
  let s := State.reset
  (∀ d, s.dev d =
      { position := .stopped, outstanding := none, queued := none, onLine := none, awaitingDone := false,
        travelDeadline := none, reportedEnd := none, lastClosed := none, faultKind := none, nextStart := none,
        queryFlag := false }) ∧
  (∀ d, s.isBarred d = false ∧ s.drive.limits.get d = .unknown ∧ s.drive.dones.get d = .unknown) ∧
  (∀ c e, (s.drive.beams.get c).get e = .unknown) ∧ s.drive.sentAt = none ∧
  (∀ d, s.drive.turned.limits.get d = 0 ∧ s.drive.turned.dones.get d = 0) ∧
  (∀ c e, (s.drive.turned.beams.get c).get e = 0) ∧ s.drive.conflictKept = false ∧
  (∀ c, s.drive.limitTrips.get c = ⟨false, true, 0⟩) ∧ s.drive.crossTrip = ⟨false, true, 0⟩ ∧
  (∀ p i, (s.levels.channels.get p).get i = ⟨none, .lost .noAnswer⟩) ∧ (∀ p, s.levels.pairs.get p = ⟨.invalid, none⟩) ∧
  (∀ c e, (s.levels.counters.get c).get e = 0) ∧ s.levels.exchanging = false ∧ s.levels.nextScan = none ∧
  s.levels.firstScan = none ∧ s.levels.lastScan = none ∧
  (∀ c, s.seq c =
      { phase := .idle, lockage := none, holds := ⟨false, false, false, false, false, false⟩, resume := none,
        stepMode := .auto, stepWait := none, entryExcuse := false, levelReached := false, levelTimer := none,
        timerDue := false, levelLostRaised := false, faults := ⟨none, none, false⟩, crossConflictTaken := false }) ∧
  (∀ c, s.cross.claims.get c = none) ∧ s.cross.grant = none ∧ s.cross.stage = .none ∧ s.cross.valveAccepted = false ∧
  s.cross.exchangeTimer = none ∧ s.cross.stopCounter = 0 ∧
  s.traffic.vessels = [] ∧ (∀ e, s.traffic.queues.get e = []) ∧
  (∀ c, s.traffic.admission.get c = 0 ∧ s.traffic.planStacks.get c = []) ∧
  (∀ h, PerHead.get s.heads h =
      { required := .red, shown := .red
        lamps := ⟨⟨true, false, 0, false, 0⟩, ⟨false, false, 0, false, 0⟩, ⟨false, false, 0, false, 0⟩⟩ }) ∧
  s.nextLampSample = 100 ∧ s.samplesFrom = 0 ∧
  s.charge.clock = ⟨⟨0, 0, 0⟩, false, 1000⟩ ∧ s.charge.current = none ∧ s.charge.pending = none ∧
  s.acct.period = 1 ∧ s.acct.serial = 0 ∧ s.acct.journal = [] ∧ s.acct.reservations = 0 ∧ s.acct.image = ⟨0, none⟩ ∧
  s.acct.accounts.length = 256 ∧ (∀ n < 256, s.account n = ⟨false, 0, false, 0, none⟩) ∧
  (∀ c, s.auth.get c = ⟨none, none, false⟩) ∧
  (∀ l, s.port l =
      { lastFrame := none, receive := [], reply := none, busy := none, queue := [], sequence := 0, sending := none }) ∧
  s.start.stage = .reading ∧ s.start.config = .invalid none ∧ s.start.image = none ∧ s.start.kind = .cold ∧
  s.start.hold = ⟨false, false, false, false, 0, 0⟩ ∧ s.start.retainedValid = true ∧ s.start.queriesPlaced = false ∧
  s.start.reconfigurePending = false ∧ s.start.store = Config.newBlock

/-! ### Invariants of every step -/

/-- The invariants hold after reset. -/
def Obligations.InvariantsAtReset : Prop :=
  OneTransaction State.reset ∧ LevelsSound State.reset ∧ SequencersSound State.reset ∧ HeadsLit State.reset ∧
    ClockInRange State.reset ∧ AccountsBounded State.reset ∧ JournalSound State.reset ∧ NoticesDistinct State.reset

/-- The drive line carries one transaction at a time (R10). -/
def Obligations.OneTransactionKept : Prop := ∀ s t : State, OneTransaction s → step s = .next t → OneTransaction t

/-- A START goes on the drive line only under a VALID configuration, while the part is not held, for a device whose chamber is not
barred (R10, R25, R26), and under the conditions of section 1.6, which `OpenConditions` spells out: the devices at the other end
stand away from an opening (R17), a gate to open has its equalization counter at 3 (R18), XV opens only between two granted chambers
in CROSSING that are closed at both ends and no sluice opens while XV is not confirmed CLOSED (R19), the dead time has passed for a
sluice to open (R20), and the sill beam of a gate to close is clear (R21). -/
def Obligations.StartsAreSafe : Prop :=
  ∀ (s t : State) (d : Device) (k : Target), step s = .next t → (t.dev d).onLine = some (.start k) →
    (s.dev d).onLine ≠ some (.start k) → StartSafe t d k

/-- Levels stay within ±20 000 mm and equalization counters within 0 to 3 (R30, R31, R32, R34). -/
def Obligations.LevelsSoundKept : Prop := ∀ s t : State, LevelsSound s → step s = .next t → LevelsSound t

/-- A chamber in a working phase, or one that resumes in one, has a lockage record; one in HOLD, SAFING or LOCKED_OUT has a resume
phase; and a resume phase is one of those that R42 names (R42, R43, R92). -/
def Obligations.SequencersSoundKept : Prop := ∀ s t : State, SequencersSound s → step s = .next t → SequencersSound t

/-- The aspect that R141 and R142 require of a head: RED until the start-up has ended; then DOUBLE_RED out of service and locked
out, RED_GREEN or GREEN for the entry-end outer head of ENTRY_OPENING and ENTRY and for the exit-end inner head of EXIT_OPENING and
EXIT, GREEN only while the gate at that end is at position OPEN, and RED for any other head and phase. -/
def requiredOf (s : State) (h : Head) (a : Aspect) : Prop :=
  let p := s.phase h.chamber
  (s.start.stage ≠ .ended → a = .red) ∧
    (s.start.stage = .ended →
      ((p = .outOfService ∨ p = .lockedOut) → a = .doubleRed) ∧
      (∀ l, (s.seq h.chamber).lockage = some l →
        let entryHead : Prop := h.side = .outer ∧ h.atEnd = l.direction.entryEnd
        let exitHead : Prop := h.side = .inner ∧ h.atEnd = l.direction.exitEnd
        let gateOpen : Prop := (s.dev (.gate h.chamber h.atEnd)).position = .opened
        (p = .entryOpening → (entryHead → a = .redGreen) ∧ (¬entryHead → a = .red)) ∧
        (p = .entry → (entryHead ∧ gateOpen → a = .green) ∧ (¬(entryHead ∧ gateOpen) → a = .red)) ∧
        (p = .exitOpening → (exitHead → a = .redGreen) ∧ (¬exitHead → a = .red)) ∧
        (p = .exit → (exitHead ∧ gateOpen → a = .green) ∧ (¬(exitHead ∧ gateOpen) → a = .red))) ∧
      (p ∉ [Phase.outOfService, .lockedOut, .entryOpening, .entry, .exitOpening, .exit] → a = .red))

/-- The red part of an aspect (R143): red1 if it is usable, else red2 if it is, else no lamp. -/
def redPart (failed : PerLamp Bool) : Option LampName :=
  if failed.red1 = false then some .red1 else if failed.red2 = false then some .red2 else none

/-- The table of R143: what a head with the failed latches shows for a required aspect, and which of its lamps are commanded on. -/
def litBy (required : Aspect) (failed : PerLamp Bool) (shown : Aspect) (on : LampName → Bool) : Prop :=
  let red := redPart failed
  let asRed : Prop := (∀ l, on l = decide (red = some l)) ∧ shown = if red = none then .dark else .red
  match required with
  | .red => asRed
  | .redGreen =>
    (∀ l, on l = decide (red = some l ∨ (l = .green ∧ red ≠ none ∧ failed.green = false))) ∧
      shown = if red = none then .dark else if failed.green then .red else .redGreen
  | .green => if failed.green then asRed else (∀ l, on l = decide (l = .green)) ∧ shown = .green
  | .doubleRed =>
    (∀ l, on l = decide (l ≠ .green ∧ failed.get l = false)) ∧
      shown = if red = none then .dark else if failed.red1 = true ∨ failed.red2 = true then .red else .doubleRed
  | .dark => False

/-- After every event every head is lit for the aspect that its chamber's phase requires, by its failed latches: its required aspect
is that of the table of R141, or RED until the start-up has ended (R142), and it shows, and lights, what the table of R143 gives. So a
head shows GREEN only while the gate at its end is at position OPEN and its chamber is in ENTRY, for the entry-end outer head, or in
EXIT, for the exit-end inner head (R141). -/
def Obligations.HeadsLitKept : Prop :=
  ∀ s t : State, HeadsLit s → step s = .next t →
    HeadsLit t ∧
    (t.isHeld = false → ∀ h,
      let r := PerHead.get t.heads h
      (((t.seq h.chamber).lockage.isSome = true ∨
          t.phase h.chamber ∉ [Phase.entryOpening, .entry, .exitOpening, .exit]) → requiredOf t h r.required) ∧
        litBy r.required (r.lamps.map (·.failed)) r.shown (fun l => (r.lamps.get l).commanded) ∧
        ((r.shown = .green ∨ ((r.lamps.get .green).commanded = true ∧ r.shown ≠ .redGreen)) →
          (t.dev (.gate h.chamber h.atEnd)).position = .opened ∧
            ∃ l, (t.seq h.chamber).lockage = some l ∧
              ((t.phase h.chamber = .entry ∧ h.side = .outer ∧ h.atEnd = l.direction.entryEnd) ∨
                (t.phase h.chamber = .exit ∧ h.side = .inner ∧ h.atEnd = l.direction.exitEnd))))

/-- The retained blocks keep their bounds: the clock's fields, the accounts, the period and the serial their ranges (R151, R167,
R168, R177, R179); reservations and finalized records never exceed the journal's 64 entries, and every reservation that a
lockage record holds is counted (R171, R172, R173). -/
def Obligations.RetainedBlocksKept : Prop :=
  ∀ s t : State, step s = .next t →
    (ClockInRange s → ClockInRange t) ∧ (AccountsBounded s → AccountsBounded t) ∧ (JournalSound s → JournalSound t)

/-- No link's queue ever holds two notices of one kind and subject (R197). -/
def Obligations.NoticesDistinctKept : Prop := ∀ s t : State, NoticesDistinct s → step s = .next t → NoticesDistinct t

/-! ### Requests that only read -/

/-- A vessel stands at the place `n`, counted from 1, of a list of handles, and at no earlier one. -/
def standsAt (h : Nat) (handles : List Nat) (n : Nat) : Prop :=
  1 ≤ n ∧ handles[n - 1]? = some h ∧ h ∉ handles.take (n - 1)

/-- The configured priority of a class (R106). -/
def configuredPriority (s : State) (k : VesselClass) : Nat :=
  match k with
  | .pleasure => s.cfg.priorities.pleasure
  | .cargo => s.cfg.priorities.cargo
  | .tanker => s.cfg.priorities.tanker
  | .passenger => s.cfg.priorities.passenger
  | .service => s.cfg.priorities.service
  | .emergency => 7

/-- What READ VESSEL carries of a vessel (R121): its record, priority and exemption; the place in its chamber's plan while it is
ASSIGNED or ABOARD; while it is SAVED the place of its saved plan on the stack and its place within that plan. -/
def viewOf (s : State) (v : Vessel) (w : VesselView) : Prop :=
  w.vessel = v ∧ w.priority = configuredPriority s v.cls ∧ w.exempt = decide (v.cls = .service ∨ v.cls = .emergency) ∧
    (∀ c l n, (v.state = .assigned c ∨ v.state = .aboard c) → (s.seq c).lockage = some l →
      standsAt v.handle (l.plan.map (·.handle)) n → w.planPlace = some n) ∧
    (∀ c i p n, v.state = .saved c → 1 ≤ i → (s.traffic.planStacks.get c)[i - 1]? = some p →
      (∀ q ∈ (s.traffic.planStacks.get c).take (i - 1), v.handle ∉ q.handles) → standsAt v.handle p.handles n →
      w.savedPlace = some (i, n)) ∧
    ((v.state = .waiting ∨ ∃ c, v.state = .saved c) → w.planPlace = none) ∧
    ((∀ c, v.state ≠ .saved c) → w.savedPlace = none)

/-- PRESENT, PEEK RECORD, READ PERIOD IMAGE, READ STATUS, READ VESSEL, READ QUEUE, READ TARIFF and READ ACCOUNT answer OK with
what stands in the state, field by field (R187, R175, R178, R121, R122, R158, R170), and change nothing but the time and the link
ports. Section 5 of READ STATUS shows the figures of the most recent scan completion, its lost ages as of that moment (R41). -/
def Obligations.ReadsOnlyAnswer : Prop :=
  ∀ (dt : Nat) (f : Frame) (s : State), Ready s f → f.lengthMatches = true →
    (f.link ≠ .toll → OnlyAnswered s dt f 3 .ok (.presence f.link s.auth) (exec (.present dt f) s)) ∧
    (∀ r rs, f.link = .toll → s.acct.journal = r :: rs →
      OnlyAnswered s dt f 28 .ok (.record (recordBytes r) (rs.length + 1)) (exec (.peekRecord dt f) s)) ∧
    (∀ n i, f.link = .toll → n ≤ 255 → s.acct.image.contents = some i →
      OnlyAnswered s dt f 31 .ok
        (.periodEntry (i.entries.getD n ⟨0, false, 0⟩) s.acct.image.period i.closeTime i.clockSet)
        (exec (.readPeriodImage dt f n) s)) ∧
    OnlyAnswered s dt f 32 .ok
      (.lock
        { time := s.charge.clock.time
          clockSet := s.charge.clock.isSet
          currentVersion := (s.charge.current.map (·.version)).getD 0
          pendingVersion := (s.charge.pending.map (·.tariff.version)).getD 0
          pendingInstant := s.charge.pending.map (·.instant)
          finalized := s.acct.journal.length
          reservations := s.acct.reservations
          free := 64 - s.acct.reservations - s.acct.journal.length
          period := s.acct.period
          serial := s.acct.serial
          stage := s.start.stage
          config := s.start.config
          format := s.start.image.map (·.format)
          authority := s.auth
          cross := s.cross })
      (exec (.readStatus dt f 1) s) ∧
    (∀ c n, (c, n) ∈ [(Chamber.A, 2), (.B, 3)] →
      let q := s.seqs.get c
      OnlyAnswered s dt f 32 .ok
        (.chamber
          { sequencer :=
              { phase := q.phase, lockage := q.lockage, holds := q.holds, resume := q.resume, stepMode := q.stepMode,
                stepWait := q.stepWait, entryExcuse := q.entryExcuse, levelReached := q.levelReached,
                levelTimer := q.levelTimer, levelLostRaised := q.levelLostRaised, faults := q.faults }
            stack := s.traffic.planStacks.get c
            admission := s.traffic.admission.get c
            heads := PerChamber.get s.heads c })
        (exec (.readStatus dt f n) s)) ∧
    OnlyAnswered s dt f 32 .ok
      (.devices { addresses := s.start.image.map (·.addresses), records := s.drive.devices }) (exec (.readStatus dt f 4) s) ∧
    (∃ v : LevelStatus, OnlyAnswered s dt f 32 .ok (.levels v) (exec (.readStatus dt f 5) s) ∧
      v.channels = s.levels.channels ∧ v.calibrations = s.start.image.map (·.channels) ∧ v.pairs = s.levels.pairs ∧
      v.counters = s.levels.counters ∧
      ∀ p, v.lostAges.get p =
        match s.levels.lastScan, (s.levels.pairs.get p).last with
        | none, _ => none
        | some m, some l => if (s.level? p).isSome then some 0 else some (m - l.time)
        | some m, none => if (s.level? p).isSome then some 0 else s.levels.firstScan.map fun x => m - x) ∧
    (∀ k, k < 1 ∨ 5 < k → OnlyAnswered s dt f 32 .badValue .none (exec (.readStatus dt f k) s)) ∧
    (∀ h m v, s.vessel? h = some v → (m = none ∨ m = some v.mark) →
      ∃ w, viewOf s v w ∧ OnlyAnswered s dt f 33 .ok (.vessel w) (exec (.readVessel dt f h m) s)) ∧
    (∀ e n, n ≤ 47 →
      let queue := s.traffic.queues.get e
      OnlyAnswered s dt f 34 .ok
        (.queue queue.length (queue.filter fun h => ((s.vessel? h).bind (·.deferral)).isSome).length
          ((List.range 16).filterMap fun i => (queue[n + i]?.bind s.vessel?).map fun v =>
            { place := n + i, handle := v.handle, mark := v.mark, cls := v.cls, priority := configuredPriority s v.cls,
              arrival := v.arrival, deferral := v.deferral }))
        (exec (.readQueue dt f (some e) n) s)) ∧
    (∀ t, s.charge.current = some t →
      OnlyAnswered s dt f 35 .ok (.tariff t none) (exec (.readTariff dt f (some .current)) s)) ∧
    (∀ p, s.charge.pending = some p →
      OnlyAnswered s dt f 35 .ok (.tariff p.tariff (some p.instant)) (exec (.readTariff dt f (some .pending)) s)) ∧
    (∀ n, n ≤ 255 → OnlyAnswered s dt f 36 .ok (.account (s.account n) s.acct.period) (exec (.readAccount dt f n) s))

/-! ### Clock and tariffs -/

/-- SET TIME writes the clock, sets it SET, restarts the tick, and notifies every link (R153). -/
def Obligations.SetTimeSetsClock : Prop :=
  ∀ (dt : Nat) (f : Frame) (day second weekday : Nat) (s : State), Ready s f → f.lengthMatches = true → f.link ≠ .toll →
    day ≤ 65535 → second ≤ 86399 → weekday ≤ 6 →
    ∃ t, exec (.setTime dt f day second weekday) s = .next t ∧
      t = { s with
            now := s.now + dt
            charge := { s.charge with clock := ⟨⟨day, second, weekday⟩, true, s.now + dt + 1000⟩ }
            links := t.links
            event := .blank } ∧
      LinksAnswered s t dt f 23 .ok .none ∧
      ∀ l, (t.port l).carries
        ⟨.clockSet, .lock, .clockSet ⟨day, second, weekday⟩ s.lockTime s.charge.clock.isSet⟩

/-- LOAD TARIFF with a dated instant writes PENDING; with IMMEDIATE it switches at once and notifies every link (R156,
R157). -/
def Obligations.LoadTariffWritesSlots : Prop :=
  ∀ (dt : Nat) (f : Frame) (x : Tariff) (s : State), Ready s f → f.lengthMatches = true → f.link = .toll →
    tariffOk x = true → x.version ≠ versionOf s.charge.current →
    (∀ i : Instant, i.day ≤ 65535 → i.second ≤ 86399 →
      ∃ t, exec (.loadTariff dt f x (some i)) s = .next t ∧
        t = { s with
              now := s.now + dt, charge := { s.charge with pending := some ⟨x, i⟩ }, links := t.links, event := .blank } ∧
        LinksAnswered s t dt f 25 .ok .none) ∧
    ∃ t, exec (.loadTariff dt f x none) s = .next t ∧
      t = { s with
            now := s.now + dt
            charge := { s.charge with current := some x, pending := none }
            links := t.links
            event := .blank } ∧
      LinksAnswered s t dt f 25 .ok .none ∧
      ∀ l, (t.port l).carries
        ⟨.tariffSwitched, .lock, .tariffSwitched x.version (versionOf s.charge.current) s.lockTime⟩

/-- The tick of the clock (R151): a second on, or the roll of second, day and weekday. -/
def nextSecond (t : LockTime) : LockTime :=
  if t.second < 86399 then ⟨t.day, t.second + 1, t.weekday⟩
  else ⟨if t.day = 65535 then 0 else t.day + 1, 0, if t.weekday = 6 then 0 else t.weekday + 1⟩

/-- CLOCK_TICK advances the clock, held or not, and keeps its state; a part that is not held switches a dated PENDING when
the clock is SET and stands at or after its instant (R151, R157). -/
def Obligations.ClockTickAdvances : Prop :=
  ∀ (dt : Nat) (s : State), s.charge.clock.nextTick ≤ s.now + dt →
    ∃ t, exec (.clockTick dt) s = .next t ∧
      t = { s with now := s.now + dt, charge := t.charge, links := t.links, event := .blank } ∧
      t.charge.clock = ⟨nextSecond s.lockTime, s.charge.clock.isSet, s.charge.clock.nextTick + 1000⟩ ∧
      (s.isHeld = true → t.charge.current = s.charge.current ∧ t.charge.pending = s.charge.pending ∧ t.links = s.links) ∧
      (s.isHeld = false → LinksServed s t ∧
        match s.charge.pending with
        | none => t.charge.current = s.charge.current ∧ t.charge.pending = none
        | some p =>
          if s.charge.clock.isSet = true ∧
              (p.instant.day < t.lockTime.day ∨ (p.instant.day = t.lockTime.day ∧ p.instant.second ≤ t.lockTime.second))
          then t.charge.current = some p.tariff ∧ t.charge.pending = none
          else t.charge.current = s.charge.current ∧ t.charge.pending = some p)

/-! ### Accounts, journal and periods -/

/-- BLOCK ACCOUNT and UNBLOCK ACCOUNT write one account's state and nothing else of any account (R169). TAKE RECORD removes the oldest
finalized record and carries it with the number left, when the expected serial is absent or its own; with another serial it is refused
CONDITION and nothing is removed (R175). CLOSE PERIOD writes the image, zeroes totals, flags and counts, keeps states and last-charged
times, advances the period and notifies the toll office (R177, R178). -/
def Obligations.AccountRequestsAct : Prop :=
  ∀ (dt : Nat) (f : Frame) (s : State), Ready s f → f.lengthMatches = true → f.link = .toll →
    (∀ n, s.acct.accounts.length = 256 → n ≤ 255 →
      let done (b : Bool) (code : Byte) (o : Machine.Outcome) : Prop :=
        ∃ t, o = .next t ∧
          t = { s with
                now := s.now + dt
                acct := { s.acct with accounts := t.acct.accounts }
                links := t.links
                event := .blank } ∧
          LinksReplied s t dt f code .ok .none ∧
          ∀ m, t.account m = if m = n then { s.account n with blocked := b } else s.account m
      (1 ≤ n → done true 26 (exec (.blockAccount dt f n) s)) ∧ done false 27 (exec (.unblockAccount dt f n) s)) ∧
    (∀ (r : ChargeRecord) (rs : List ChargeRecord), s.acct.journal = r :: rs →
      (∀ x, (x = none ∨ x = some r.serial) →
        ∃ t, exec (.takeRecord dt f x) s = .next t ∧
          t = { s with now := s.now + dt, acct := { s.acct with journal := rs }, links := t.links, event := .blank } ∧
          LinksReplied s t dt f 29 .ok (.record (recordBytes r) rs.length)) ∧
      ∀ n, n ≠ r.serial → OnlyAnswered s dt f 29 .condition .none (exec (.takeRecord dt f (some n)) s)) ∧
    ∃ t, exec (.closePeriod dt f) s = .next t ∧
      t = { s with
            now := s.now + dt
            acct :=
              { s.acct with
                accounts := s.acct.accounts.map fun a => ⟨a.blocked, 0, false, 0, a.lastCharged⟩
                image :=
                  { period := s.acct.period
                    contents := some
                      { closeTime := s.lockTime, clockSet := s.charge.clock.isSet
                        entries := s.acct.accounts.map fun a => ⟨a.total, a.saturated, a.count⟩ } }
                period := if s.acct.period = 65535 then 1 else s.acct.period + 1 }
            links := t.links
            event := .blank } ∧
      LinksAnswered s t dt f 30 .ok (.closedPeriod s.acct.period) ∧
      (t.port .toll).carries ⟨.periodClosed, .lock, .periodClosed s.acct.period t.acct.period s.lockTime⟩

/-- The entries of a charge record that charge an account (R174): the non-exempt ones that name it. -/
def chargedTo (r : ChargeRecord) (n : Nat) : List ChargeEntry :=
  r.entries.filter fun e => !e.cls.exempt && decide (e.account = n)

/-- What a charge record adds to an account (R174): its entries' totals, and to account 0 the unallocated water. -/
def addedTo (r : ChargeRecord) (n : Nat) : Nat :=
  ((chargedTo r n).map ChargeEntry.total).sum + if n = 0 then r.unallocated else 0

/-- A posting appends the record stamped with the present period, releases one reservation, and adds to each account the
totals of the entries that charge it, saturating at the bound (R168, R174). -/
def Obligations.PostingAddsUp : Prop :=
  ∀ (u : AccountingUnit) (r : ChargeRecord),
    u.post r =
      { u with
        journal := u.journal ++ [{ r with period := u.period }]
        reservations := u.reservations - 1
        accounts := (u.post r).accounts } ∧
    (u.post r).accounts.length = u.accounts.length ∧
    ∀ (n : Nat) (a : Account), 1 ≤ u.accounts.length → u.accounts[n]? = some a → a.bounded →
      (u.post r).accounts[n]? = some
        { blocked := a.blocked
          total := min periodTotalBound (a.total + addedTo r n)
          saturated := a.saturated || decide (periodTotalBound < a.total + addedTo r n)
          count := min periodCountBound (a.count + (chargedTo r n).length)
          lastCharged := if n = 0 ∨ chargedTo r n ≠ [] then some r.finalized else a.lastCharged }

/-- A link event finds a frame of a kind first among the bytes of the frame that it discards (R183). -/
def findsFirst (c : Instr) (l : Link) (kind : Byte) : Prop :=
  ∃ dt bytes h, h.kind = kind ∧
    ((c = .frameInvalid dt l bytes ∧ (searchAgain false (bytes.map (·.value))).1.head? = some h) ∨
      (c = .frameGapTimeout dt l bytes ∧ (searchAgain true (bytes.map (·.value))).1.head? = some h))

/-- No account's period total decreases and no saturated flag clears, but when CLOSE PERIOD, as a command of its own or found among
the bytes of a discarded frame, or a cold start sets every one of them to zero (R168): the release of a part that lost its main power
and whose retained domain is invalid (R202). -/
def Obligations.TotalsOnlyGrow : Prop :=
  ∀ (s t : State), AccountsBounded s → step s = .next t →
    (∀ n, (s.account n).total ≤ (t.account n).total ∧ ((s.account n).saturated = true → (t.account n).saturated = true)) ∨
    (((∃ dt f, s.pending.head? = some (.closePeriod dt f)) ∨
        ((∃ dt, s.pending.head? = some (.partReleased dt)) ∧ s.start.hold.powerLost = true ∧ s.start.retainedValid = false) ∨
        ∃ c, s.pending.head? = some c ∧ findsFirst c .toll 30) ∧
      ∀ n, (t.account n).total = 0 ∧ (t.account n).saturated = false)

/-- The own charge of a plan entry from the snapshot (R162): nothing for an exempt class; for a charged one its base is the row's
base and the started metres at the row's rate, and the charge is that times the band factor, in hundredths, to the nearest
unit. The water charge takes no band factor. -/
def Obligations.OwnChargeOfEntry : Prop :=
  (∀ (snap : Snapshot) (length : Nat),
    ownCharge snap .service length = 0 ∧ ownCharge snap .emergency length = 0 ∧
    ∀ cls r, (cls, r) ∈ [(VesselClass.pleasure, snap.rates.pleasure), (.cargo, snap.rates.cargo),
        (.tanker, snap.rates.tanker), (.passenger, snap.rates.passenger)] →
      ∃ metres, length ≤ 10 * metres ∧ 10 * metres < length + 10 ∧
        let base := r.base + metres * r.metre
        let own := ownCharge snap cls length
        own = (base * snap.factor + 50) / 100 ∧
        100 * own ≤ base * snap.factor + 50 ∧ base * snap.factor < 100 * own + 50 ∧
        (snap.factor = 0 → own = 0) ∧
        (r.base ≤ 1000000 → r.metre ≤ 100000 → length ≤ 2000 → base ≤ 21000000 ∧
          (snap.factor ≤ 400 → own ≤ 84000000))) ∧
  ∀ (s : State) (c : Chamber) (l : LockageRecord) (vs : List Vessel) (factor : Nat),
    (s.chargeRecord c { l with snapshot := { l.snapshot with factor } } vs).waterCharge = (s.chargeRecord c l vs).waterCharge

/-- The water part of a lockage (R161): the travel is the absolute difference of the levelling marks, at most 20 000 mm and 0 where
a mark is unset; the volume is the plan area times the travel in whole cubic metres, the water charge the volume at the snapshot's
rate in whole units. The water charge is shared out to the last unit in proportion to the lengths of the charged entries, the
leftover units going to the largest remainders, earlier entries first; with no length to share by, all of it is unallocated (R163).
The charge record carries these, the cross volume where the cross-used flag is set (R85), and what R164 takes from the lockage
record, its snapshot, the clock and the vessels. -/
def Obligations.WaterIsSharedOut : Prop :=
  (∀ (s : State) (c : Chamber) (l : LockageRecord) (vs : List Vessel),
    let r := s.chargeRecord c l vs
    let area := (s.cfg.chambers.get c).planArea
    let rate := l.snapshot.water
    (∀ a b, l.startMark = some a → l.endMark = some b → r.travel = min (max (a - b) (b - a)).toNat 20000) ∧
    ((l.startMark = none ∨ l.endMark = none) → r.travel = 0) ∧
    (1000 * r.volume ≤ area * r.travel ∧ area * r.travel < 1000 * r.volume + 1000) ∧
    (100 * r.waterCharge ≤ r.volume * rate ∧ r.volume * rate < 100 * r.waterCharge + 100) ∧
    (area ≤ 5000 → rate ≤ 100000 → r.volume ≤ 100000 ∧ r.waterCharge ≤ 100000000) ∧
    let lengths := vs.map fun v => if v.cls = .service ∨ v.cls = .emergency then 0 else v.length
    r =
      { period := s.acct.period, serial := l.serial, chamber := c, direction := l.direction, formed := l.startTime
        finalized := s.lockTime, clockUnset := !l.snapshot.clockSet || !s.charge.clock.isSet
        version := l.snapshot.version, band := l.snapshot.band, factor := l.snapshot.factor
        travel := r.travel, volume := r.volume, waterCharge := r.waterCharge
        crossVolume :=
          match l.crossUsed, l.crossStart, l.crossEnd with
          | true, some a, some b => some (area * (max (b.get c - a.get c) (a.get c - b.get c)).toNat / 1000)
          | _, _, _ => none
        unallocated := unallocatedWater r.waterCharge lengths
        emergency := l.emergency
        entries := (vs.zip (waterShares r.waterCharge lengths)).map fun x =>
          { mark := x.1.mark, account := x.1.account, cls := x.1.cls, length := x.1.length
            own := ownCharge l.snapshot x.1.cls x.1.length, share := x.2 } }) ∧
  ∀ (c : Nat) (lengths : List Nat),
    (waterShares c lengths).length = lengths.length ∧
    (waterShares c lengths).sum + unallocatedWater c lengths = c ∧
    (lengths.sum = 0 → unallocatedWater c lengths = c) ∧
    (lengths.sum ≠ 0 → unallocatedWater c lengths = 0) ∧
    ∀ (i j : Nat) (l k x y : Nat), lengths[i]? = some l → lengths[j]? = some k →
      (waterShares c lengths)[i]? = some x → (waterShares c lengths)[j]? = some y →
      (l = 0 → x = 0) ∧ (x = c * l / lengths.sum ∨ x = c * l / lengths.sum + 1) ∧
      (lengths.sum ≠ 0 → x = c * l / lengths.sum + 1 → y = c * k / lengths.sum →
        c * k % lengths.sum < c * l % lengths.sum ∨ (c * k % lengths.sum = c * l % lengths.sum ∧ i < j))

/-! ### Vessels -/

/-- `new` is the queue `old` with the vessel inserted where its keys put it: no vessel before it comes after it by R114, and
the first vessel behind it does. -/
def placedIn (s : State) (v : Vessel) (old new : List Nat) : Prop :=
  ∃ before after, old = before ++ after ∧ new = before ++ v.handle :: after ∧
    (∀ h ∈ before, ∀ w, s.vessel? h = some w → s.ahead v w = false) ∧
    ∀ h w, after.head? = some h → s.vessel? h = some w → s.ahead v w = true

/-- The queue order of R114: higher priority, then earlier arrival by day and second, then lower handle. -/
def comesBefore (s : State) (v w : Vessel) : Prop :=
  s.priority w.cls < s.priority v.cls ∨
    (s.priority v.cls = s.priority w.cls ∧
      (toLex (v.arrival.day, toLex (v.arrival.second, v.handle)) <
        toLex (w.arrival.day, toLex (w.arrival.second, w.handle))))

/-- A queue is ordered by R114. -/
def queueOrdered (s : State) (q : List Nat) : Prop :=
  q.Pairwise fun h k => ∀ v w, s.vessel? h = some v → s.vessel? k = some w → comesBefore s v w

/-- Inserting a vessel keeps a queue in the order of R114. -/
def Obligations.InsertionKeepsQueueOrder : Prop :=
  ∀ (s : State) (v : Vessel) (q : List Nat), s.vessel? v.handle = some v → v.handle ∉ q →
    (∀ h ∈ q, (s.vessel? h).isSome = true) → queueOrdered s q →
    queueOrdered s (s.placeIn v q) ∧ (s.placeIn v q).Perm (v.handle :: q)

/-- A plan holds a vessel of the class, as the vessel table stands. -/
def carriesClass (s : State) (l : LockageRecord) (k : VesselClass) : Bool :=
  l.plan.any fun e => (s.vessel? e.handle).map (·.cls) = some k

/-- The failed test among tests 1 to 6 of R125, taken in their order; SillTestOutcomes states the sill test. -/
def firstFailed (s : State) (c : Chamber) (l : LockageRecord) (v : Vessel) : Option Deferral :=
  let k := s.cfg.chambers.get c
  if k.clearWidth < v.beam + 2 * s.cfg.sideClearance then some .beam
  else if k.usableLength < l.usedLength + v.length + s.cfg.vesselSpacing then some .length
  else
    match s.sillTest c v.draught with
    | some r => some r
    | none =>
      if s.priority v.cls < s.traffic.admission.get c ∧ v.cls ≠ .emergency then some .admission
      else if (v.cls = .tanker ∧ carriesClass s l .passenger = true) ∨ (v.cls = .passenger ∧ carriesClass s l .tanker = true)
      then some .hazard
      else if 10 ≤ l.plan.length then some .count
      else none

/-- Test 7 of R125: the record holds a reservation, or the journal grants one (R126, R172). -/
def hasSpace (s : State) (l : LockageRecord) (v : Vessel) : Bool :=
  decide (l.reservation ≠ .none) ||
    decide (s.acct.reservations + s.acct.journal.length + (if v.cls = .emergency then 1 else 3) ≤ 64)

/-- The state after a vessel is taken into a chamber's plan (R126, R127): it has left its queue, is ASSIGNED, stands last in the
plan, and an empty plan's reservation has been obtained. -/
def takenInto (s : State) (c : Chamber) (v : Vessel) (l : LockageRecord) : State :=
  { s with
    traffic :=
      { s.traffic with
        vessels := s.traffic.vessels.map fun x =>
          if x.handle = v.handle then { x with state := .assigned c, deferral := none } else x
        queues := s.traffic.queues.map fun q => q.filter (· ≠ v.handle) }
    seqs := s.seqs.set c
      { s.seq c with
        lockage := some
          { l with
            plan := l.plan ++ [⟨v.handle, false⟩]
            usedLength := l.usedLength + (v.length + s.cfg.vesselSpacing)
            reservation :=
              if l.reservation ≠ .none then l.reservation else if v.cls = .emergency then .emergency else .normal
            emergency := l.emergency || decide (v.cls = .emergency) } }
    acct :=
      { s.acct with reservations := if l.reservation ≠ .none then s.acct.reservations else s.acct.reservations + 1 } }

/-- The vessel passes tests 1 to 3 of R125 against the chamber with an empty plan. -/
def fitsEmpty (s : State) (c : Chamber) (v : Vessel) : Prop :=
  v.beam + 2 * s.cfg.sideClearance ≤ (s.cfg.chambers.get c).clearWidth ∧
    v.length + s.cfg.vesselSpacing ≤ (s.cfg.chambers.get c).usableLength ∧ s.sillTest c v.draught = none

/-- The chamber, with its lockage record, lets the vessel join (R133). -/
def letsJoin (s : State) (c : Chamber) (v : Vessel) (l : LockageRecord) : Prop :=
  s.phase c ∈ [Phase.forming, .turning, .preLevelling, .entryOpening, .entry] ∧ (s.seq c).lockage = some l ∧
    l.direction = v.direction ∧ firstFailed s c l v = none ∧ hasSpace s l v = true

/-- The chamber is chosen for an emergency start (R134, R132). -/
def chosenForStart (s : State) (c : Chamber) (v : Vessel) : Prop :=
  s.start.stage = .ended ∧ s.phase c = .idle ∧ s.holder c ≠ none ∧ (s.seq c).stepMode = .auto ∧ fitsEmpty s c v ∧
    s.acct.reservations + s.acct.journal.length + 1 ≤ 64

/-- The chamber, with its lockage record, is preempted (R135, R132). -/
def chosenForPreemption (s : State) (c : Chamber) (v : Vessel) (l : LockageRecord) : Prop :=
  s.start.stage = .ended ∧ s.holder c ≠ none ∧ s.phase c ∈ [Phase.forming, .turning, .preLevelling, .entryOpening] ∧
    (s.seq c).lockage = some l ∧ l.direction ≠ v.direction ∧ (s.traffic.planStacks.get c).length < 2 ∧
    carriesClass s l .emergency = false ∧ fitsEmpty s c v ∧
    (if l.reservation = .none then s.acct.reservations else s.acct.reservations - 1) + s.acct.journal.length + 1 ≤ 64

/-- `u` is the state after the push, the release and the restart order of a preemption (R135, R69), before the chamber enters
FORMING: a plan with vessels stands on the stack with its vessels SAVED, its reservation is given back, the step wait is ended, STOP
has taken the place of every queued START of the chamber's devices, and EMERGENCY_PREEMPT is produced. -/
def PushedFor (s : State) (c : Chamber) (v : Vessel) (l : LockageRecord) (u : State) : Prop :=
  let handles := l.plan.map (·.handle)
  u.traffic =
    { s.traffic with
      vessels := s.traffic.vessels.map fun x => if x.handle ∈ handles then { x with state := .saved c } else x
      planStacks :=
        if handles = [] then s.traffic.planStacks
        else s.traffic.planStacks.set c (⟨l.direction, l.startTime, handles⟩ :: s.traffic.planStacks.get c) } ∧
  u.acct =
    { s.acct with reservations := if l.reservation = .none then s.acct.reservations else s.acct.reservations - 1 } ∧
  u.phase c = s.phase c ∧ (u.seq c).stepWait = none ∧ u.seq c.other = s.seq c.other ∧
  (∀ d, u.dev d =
    if d ∈ c.devices ∧ (s.dev d).startQueued = true ∧ s.isBarred d = false then
      { s.dev d with outstanding := some .stop, queued := some ⟨.stop, s.now⟩, nextStart := none }
    else s.dev d) ∧
  u.event.produced = s.event.produced ++
    [.emergencyPreempt c v.direction v.handle v.mark l.direction l.startTime l.plan.length
      (u.traffic.planStacks.get c).length]

/-- Emergency handling (R132 to R135): join, emergency start and preemption in turn, each at chamber A before chamber B. A way
acts on a WAITING EMERGENCY vessel alone: where its conditions hold, a join takes the vessel, an emergency start enters FORMING in the
vessel's direction, a preemption does so after its push; where they do not, nothing changes. -/
def EmergencyHandling : Prop :=
  ∀ (s : State) (h : Nat),
    s.handleEmergency h =
      [(Way.join, Chamber.A), (.join, .B), (.start, .A), (.start, .B), (.preempt, .A), (.preempt, .B)].foldl
        (fun u x => u.tryWay x.1 h x.2) s ∧
    ((∀ v, s.vessel? h = some v → v.state ≠ .waiting ∨ v.cls ≠ .emergency) → ∀ w c, s.tryWay w h c = s) ∧
    ∀ v c, s.vessel? h = some v → v.state = .waiting → v.cls = .emergency →
      (∀ l, letsJoin s c v l → { s.tryWay .join h c with event := s.event } = takenInto s c v l) ∧
      ((∀ l, ¬letsJoin s c v l) → s.tryWay .join h c = s) ∧
      (chosenForStart s c v → s.tryWay .start h c = s.enterForming c v.direction []) ∧
      (¬chosenForStart s c v → s.tryWay .start h c = s) ∧
      (∀ l, chosenForPreemption s c v l →
        ∃ u, PushedFor s c v l u ∧ s.tryWay .preempt h c = u.enterForming c v.direction []) ∧
      ((∀ l, ¬chosenForPreemption s c v l) → s.tryWay .preempt h c = s)

/-- REGISTER VESSEL gives the lowest free handle, fills the record, and inserts the vessel into its queue (R109, R110). For an
EMERGENCY vessel emergency handling follows: join, emergency start and preemption in turn, chamber A before B, each with its
conditions and its effect (R132 to R135); StartLockageEntersForming states the entry to FORMING that the last two end with. -/
def Obligations.RegisterVesselFillsRecord : Prop :=
  ∀ (dt : Nat) (f : Frame) (r : Registration) (cls : VesselClass) (d : Direction) (h : Nat) (s : State), Ready s f →
    f.lengthMatches = true → f.link ≠ .toll → r.cls = some cls → r.direction = some d → markOk r.mark = true →
    dimensionsOk r.length r.beam r.draught r.account = true → (∀ v ∈ s.traffic.vessels, v.mark ≠ r.mark) →
    s.configValid = true → s.fitsSome r.length r.beam = true →
    (cls.exempt = true ∨ (s.account r.account).blocked = false) →
    1 ≤ h → h ≤ 48 → s.vessel? h = none → (∀ k, 1 ≤ k → k < h → (s.vessel? k).isSome = true) →
    let v : Vessel :=
      { handle := h, mark := r.mark, cls, length := r.length, beam := r.beam, draught := r.draught, account := r.account,
        direction := d, arrival := s.lockTime, state := .waiting, deferral := none }
    (cls ≠ .emergency →
      ∃ t, exec (.registerVessel dt f r) s = .next t ∧
        t = { s with
              now := s.now + dt
              traffic :=
                { s.traffic with
                  vessels := t.traffic.vessels
                  queues := s.traffic.queues.set d.entryEnd (t.traffic.queues.get d.entryEnd) }
              links := t.links
              event := .blank } ∧
        LinksReplied s t dt f 20 .ok (.handle h) ∧ (∀ k, t.vessel? k = if k = h then some v else s.vessel? k) ∧
        placedIn s v (s.traffic.queues.get d.entryEnd) (t.traffic.queues.get d.entryEnd)) ∧
    (cls = .emergency →
      CarriedOut s dt f 20 (.handle h) (fun u => ((u.addRecord v).enqueue v).handleEmergency h)
        (exec (.registerVessel dt f r) s) ∧
      let u := ((s.taken dt f).addRecord v).enqueue v
      (∀ k, u.vessel? k = if k = h then some v else s.vessel? k) ∧
        placedIn s v (s.traffic.queues.get d.entryEnd) (u.traffic.queues.get d.entryEnd) ∧
        u = { s.taken dt f with traffic := u.traffic } ∧ EmergencyHandling)

/-- AMEND VESSEL writes the five fields of a WAITING vessel, clears its deferral reason and places it anew (R111). For an EMERGENCY
vessel emergency handling follows as in RegisterVesselFillsRecord (R132 to R135). -/
def Obligations.AmendVesselRewritesRecord : Prop :=
  ∀ (dt : Nat) (f : Frame) (h : Nat) (m : Option Mark) (a : Amendment) (cls : VesselClass) (v : Vessel) (s : State),
    Ready s f → f.lengthMatches = true → f.link ≠ .toll → s.vessel? h = some v → (m = none ∨ m = some v.mark) →
    v.state = .waiting → a.cls = some cls → dimensionsOk a.length a.beam a.draught a.account = true →
    s.configValid = true → s.fitsSome a.length a.beam = true →
    (cls.exempt = true ∨ (s.account a.account).blocked = false) →
    let w : Vessel :=
      { v with length := a.length, beam := a.beam, draught := a.draught, cls, account := a.account, deferral := none }
    (cls ≠ .emergency →
      ∃ t, exec (.amendVessel dt f h m a) s = .next t ∧
        t = { s with
              now := s.now + dt
              traffic := { s.traffic with vessels := t.traffic.vessels, queues := t.traffic.queues }
              links := t.links
              event := .blank } ∧
        LinksReplied s t dt f 21 .ok .none ∧ (∀ k, t.vessel? k = if k = h then some w else s.vessel? k) ∧
        t.traffic.queues.get v.direction.exitEnd = (s.traffic.queues.get v.direction.exitEnd).filter (· ≠ h) ∧
        placedIn s w ((s.traffic.queues.get v.direction.entryEnd).filter (· ≠ h))
          (t.traffic.queues.get v.direction.entryEnd)) ∧
    (cls = .emergency →
      CarriedOut s dt f 21 .none
        (fun u => (((u.dequeue h).modVessel h fun _ => w).enqueue w).handleEmergency h)
        (exec (.amendVessel dt f h m a) s) ∧
      let u := (((s.taken dt f).dequeue h).modVessel h fun _ => w).enqueue w
      (∀ k, u.vessel? k = if k = h then some w else s.vessel? k) ∧
        placedIn s w ((s.traffic.queues.get v.direction.entryEnd).filter (· ≠ h))
          (u.traffic.queues.get v.direction.entryEnd) ∧
        u = { s.taken dt f with traffic := u.traffic } ∧ EmergencyHandling)

/-- WITHDRAW VESSEL deletes a WAITING or SAVED vessel, and an ASSIGNED one while the plan window is open: it leaves its queue,
its saved plan or its plan, whose reservation goes back when the plan is left empty (R112, R113). -/
def Obligations.WithdrawVesselDeletesVessel : Prop :=
  ∀ (dt : Nat) (f : Frame) (h : Nat) (m : Option Mark) (v : Vessel) (s : State), Ready s f → f.lengthMatches = true →
    f.link ≠ .toll → s.vessel? h = some v → (m = none ∨ m = some v.mark) →
    let vessels := s.traffic.vessels.filter fun x => x.handle ≠ h
    let queues := s.traffic.queues.map fun q => q.filter (· ≠ h)
    (v.state = .waiting →
      ∃ t, exec (.withdrawVessel dt f h m) s = .next t ∧
        t = { s with
              now := s.now + dt, traffic := { s.traffic with vessels, queues }, links := t.links, event := .blank } ∧
        LinksReplied s t dt f 22 .ok .none) ∧
    (∀ c, v.state = .saved c →
      ∃ t, exec (.withdrawVessel dt f h m) s = .next t ∧
        t = { s with
              now := s.now + dt
              traffic :=
                { s.traffic with
                  vessels, queues
                  planStacks := s.traffic.planStacks.set c
                    (((s.traffic.planStacks.get c).map fun p => { p with handles := p.handles.filter (· ≠ h) }).filter
                      fun p => p.handles ≠ []) }
              links := t.links
              event := .blank } ∧
        LinksReplied s t dt f 22 .ok .none) ∧
    ∀ c l, v.state = .assigned c → (s.seq c).planWindow = true → (s.seq c).lockage = some l →
      let plan := l.plan.filter fun e => e.handle ≠ h
      let givesBack := plan = [] ∧ l.reservation ≠ .none
      ∃ t, exec (.withdrawVessel dt f h m) s = .next t ∧
        t = { s with
              now := s.now + dt
              traffic := { s.traffic with vessels, queues }
              seqs := s.seqs.set c
                { s.seq c with
                  lockage := some
                    { l with
                      plan
                      usedLength := l.usedLength - (v.length + s.cfg.vesselSpacing)
                      reservation := if givesBack then .none else l.reservation } }
              acct := { s.acct with reservations := if givesBack then s.acct.reservations - 1 else s.acct.reservations }
              links := t.links
              event := .blank } ∧
        LinksReplied s t dt f 22 .ok .none

/-- ADD VESSEL takes a WAITING vessel that passes the seven tests of R125 into the chamber's plan: it leaves its queue, stands last in
the plan, and an empty plan's reservation is obtained (R126, R127, R129, R172). One that fails a test is refused with the result code
that R129 gives the first failed test. -/
def Obligations.AddVesselTakesVessel : Prop :=
  ∀ (dt : Nat) (f : Frame) (o : Operator) (c : Chamber) (h : Nat) (m : Option Mark) (v : Vessel) (l : LockageRecord)
    (s : State), Ready s f → f.lengthMatches = true → f.link.operator? = some o → s.holder c = some o →
    (s.seq c).planWindow = true → s.vessel? h = some v → (m = none ∨ m = some v.mark) → v.state = .waiting →
    (s.seq c).lockage = some l → l.direction = v.direction →
    match firstFailed s c l v, hasSpace s l v with
    | none, true =>
      ∃ t, exec (.addVessel dt f (some c) h m) s = .next t ∧
        t = { takenInto s c v l with now := s.now + dt, links := t.links, event := .blank } ∧
        LinksAnswered s t dt f 6 .ok .none
    | none, false => OnlyAnswered s dt f 6 .noRecordSpace .none (exec (.addVessel dt f (some c) h m) s)
    | some r, _ =>
      OnlyAnswered s dt f 6
        (match r with
        | .beam | .sill | .level | .admission | .hazard => .notAdmissible
        | .length | .count => .noRoom
        | .recordSpace => .noRecordSpace)
        .none (exec (.addVessel dt f (some c) h m) s)

/-! ### Configuration and lamps -/

/-- LOAD CONFIGURATION is refused NOT_PERMITTED off the desk link, WRONG_PHASE unless both chambers are OUT_OF_SERVICE, BAD_VALUE
unless its contents pass the checks; an accepted one writes them with their check to the store and reads them back (R206). A read-back
that agrees answers OK and makes the part hold itself after the reply; one that differs, be it of a damaged store or of one that
holds what was written, answers CONDITION, and the part goes on under the configuration it has. What is written passes the checks of
a start, and all ones from a store that does not answer never agree with it (R203). That the command carries what the store then
holds and what the read-back brings is log 30. -/
def Obligations.LoadConfigurationWritesStore : Prop :=
  ∀ (dt : Nat) (f : Frame) (block : List Byte) (damage readBack : Option (List Byte)) (s : State), Ready s f →
    let answer := exec (.loadConfiguration dt f block ⟨damage, readBack⟩) s
    let closed : Prop := s.phase .A = .outOfService ∧ s.phase .B = .outOfService
    let leaves (u : StartUp) (r : Result) : Prop :=
      ∃ t, answer = .next t ∧ t = { s with now := s.now + dt, start := u, links := t.links, event := .blank } ∧
        LinksReplied s t dt f 19 r .none
    let held := damage.getD (withCheck block)
    let read := readBack.getD held
    (f.link ≠ .desk → OnlyAnswered s dt f 19 .notPermitted .none answer) ∧
    (f.link = .desk → ¬closed → OnlyAnswered s dt f 19 .wrongPhase .none answer) ∧
    (f.link = .desk → closed → loadable block = false → OnlyAnswered s dt f 19 .badValue .none answer) ∧
    (f.link = .desk → closed → loadable block = true →
      storedFault (withCheck block) = none ∧ List.replicate 99 0xFF#8 ≠ withCheck block ∧
      (read = withCheck block → leaves { s.start with store := held, reconfigurePending := true } .ok) ∧
      (read ≠ withCheck block → leaves { s.start with store := held } .condition))

/-- LAMP CHECK clears every failed latch and low count, keeps the stray values and counts, and lights every head anew for the
aspect its chamber requires (R143, R147). -/
def Obligations.LampCheckClearsLatches : Prop :=
  ∀ (dt : Nat) (f : Frame) (s : State), Ready s f → f.lengthMatches = true → f.link = .desk →
    CarriedOut s dt f 18 .none
      (fun u => { u with heads := PerHead.of fun h =>
        { PerHead.get s.heads h with lamps := (PerHead.get s.heads h).lamps.map fun x =>
          { x with failed := false, lowCount := 0 } } })
      (exec (.lampCheck dt f) s) ∧
    ∀ t, exec (.lampCheck dt f) s = .next t → ∀ h,
      (PerHead.get t.heads h).failed = ⟨false, false, false⟩ ∧ (PerHead.get t.heads h).lit (t.requiredAspect h) ∧
      (PerHead.get t.heads h).lamps.map (·.stray) = (PerHead.get s.heads h).lamps.map (·.stray)

/-! ### Authority -/

/-- The chamber's authority fields become `a`; a change of them produces AUTHORITY_CHANGED with the holder before it and its cause
(R188, R195). -/
def authorityBecomes (s : State) (c : Chamber) (a : Authority) (cause : AuthorityCause) : State :=
  if s.auth.get c = a then s
  else
    { s with
      auth := s.auth.set c a
      event := { s.event with
        produced := s.event.produced ++ [.authorityChanged c (s.auth.get c).holder cause] } }

/-- What a chamber that loses its holder is given (R188): the hold order NO_HOLDER, but not in IDLE or OUT_OF_SERVICE. HoldOrdersHold
states what the order does. -/
def orderedNoHolder (s : State) (c : Chamber) : State :=
  if s.phase c = .idle ∨ s.phase c = .outOfService then s else s.holdOrder c .noHolder

/-- NO_HOLDER has left the hold set of a chamber that gains a holder (R66, R188). -/
def noHolderRemoved (s : State) (c : Chamber) : State :=
  { s with seqs := s.seqs.set c { s.seq c with holds := { (s.seq c).holds with noHolder := false } } }

/-- The phase and the reason NO_HOLDER in which losing its holder leaves a chamber (R64, R65, R188). -/
def heldWithoutHolder (s u : State) (c : Chamber) : Prop :=
  let p := s.phase c
  (p.working = true → u.phase c = .hold) ∧ (p.working = false → u.phase c = p) ∧
    ((p.working = true ∨ p = .hold ∨ p = .safing) → (u.seq c).holds.noHolder = true)

/-- CLAIM makes the claimant holder of a chamber without one, whose hold set then loses NO_HOLDER (R66, R188), records its claim where
the other link holds, with CLAIM_PENDING, and changes nothing where it holds or its claim is pending already; every case is answered
OK with the chamber's holder and pending claim (R189). -/
def Obligations.ClaimGainsOrWaits : Prop :=
  ∀ (dt : Nat) (f : Frame) (o : Operator) (c : Chamber) (s : State), Ready s f → f.lengthMatches = true →
    f.link.operator? = some o →
    let a : Authority :=
      match s.holder c with
      | none => ⟨some o, none, false⟩
      | some h => if h = o then s.auth.get c else { s.auth.get c with pendingClaim := some o }
    let u := (s.taken dt f).claimBy c o
    CarriedOut s dt f 1 (.claimed a.holder a.pendingClaim) (fun u => u.claimBy c o) (exec (.claim dt f (some c)) s) ∧
    u.auth = s.auth.set c a ∧
    (s.holder c = none → u = noHolderRemoved (authorityBecomes (s.taken dt f) c a .claim) c) ∧
    (s.holder c ≠ none →
      let w := authorityBecomes (s.taken dt f) c a .claim
      u = if s.auth.get c = a then w
        else { w with event := { w.event with produced := w.event.produced ++ [.claimPending c o] } }) ∧
    (a.releaseWaiting = false → ∀ t, exec (.claim dt f (some c)) s = .next t → t.auth.get c = a)

/-- RELEASE by the holder loses the chamber, hands it over to the claimant, or waits while a device moves; by the claimant it
drops the claim, with a waiting release taking effect (R190, R191). A chamber that loses its holder so is given the hold order
NO_HOLDER outside IDLE and OUT_OF_SERVICE (R188); a hand-over gives no order. That AUTHORITY_CHANGED carries the cause HAND_OVER where
the release hands over at once is log 56. -/
def Obligations.ReleaseLosesHandsOverOrWaits : Prop :=
  ∀ (dt : Nat) (f : Frame) (o : Operator) (c : Chamber) (s : State), Ready s f → f.lengthMatches = true →
    f.link.operator? = some o →
    let a := s.auth.get c
    (a.holder = some o ∨ a.pendingClaim = some o) →
    let b : Authority :=
      if a.holder = some o then
        match a.pendingClaim with
        | none => ⟨none, none, false⟩
        | some p =>
          if a.releaseWaiting then a
          else if s.chamberMoving c then { a with releaseWaiting := true }
          else ⟨some p, none, false⟩
      else if a.releaseWaiting then ⟨none, none, false⟩
      else { a with pendingClaim := none }
    let loses : Prop := if a.holder = some o then a.pendingClaim = none else a.releaseWaiting = true
    let handsOver : Prop := a.holder = some o ∧ a.pendingClaim ≠ none ∧ a.releaseWaiting = false ∧ s.chamberMoving c = false
    ∃ u, (s.taken dt f).releaseBy? c o = some u ∧ u.auth = s.auth.set c b ∧
      CarriedOut s dt f 2 (.authority b) (fun _ => u) (exec (.release dt f (some c)) s) ∧
      (handsOver → u = authorityBecomes (s.taken dt f) c b .handOver) ∧
      (¬handsOver → ¬loses → u = authorityBecomes (s.taken dt f) c b .release) ∧
      (loses → u = orderedNoHolder (authorityBecomes (s.taken dt f) c b .release) c ∧ heldWithoutHolder s u c)

/-- SEIZE makes the desk holder with no claim and no waiting release, with the cause SEIZE; from no holder NO_HOLDER leaves the hold
set, since the chamber gains a holder (R66, R188). Taken from another holder while a device of the chamber moves or it is in a
sequencing phase, TURNING to EXIT_OPENING, it gives the hold order SEIZED, which HoldOrdersHold spells out, and nothing more
otherwise (R192). That a chamber taken from no holder is given the hold order SEIZED in the same cases is the model's reading of the
rule's "Otherwise" (log 41, DEDUCED). -/
def Obligations.SeizeMakesDeskHolder : Prop :=
  ∀ (dt : Nat) (f : Frame) (c : Chamber) (s : State), Ready s f → f.lengthMatches = true → f.link = .desk →
    let a : Authority := ⟨some .desk, none, false⟩
    let u := (s.taken dt f).seizeBy c
    (∃ t, exec (.seize dt f (some c)) s = .next t ∧ t = (u.replied f 4 .ok (.authority a)).finish ∧
      LinksAnswered s t dt f 4 .ok (.authority a) ∧ t.frame = { s.frame with now := s.now + dt } ∧ t.auth.get c = a) ∧
    let taken := authorityBecomes (s.taken dt f) c a .seize
    let w := if s.holder c = none then noHolderRemoved taken c else taken
    let moves : Prop := ∃ d ∈ c.devices, (s.dev d).position = .opening ∨ (s.dev d).position = .closing
    let sequencing : Prop := s.phase c ∈
      [Phase.turning, .preLevelling, .entryOpening, .entry, .entryClosing, .crossing, .levelling, .exitOpening]
    let orders : Prop := s.holder c ≠ some .desk ∧ (moves ∨ sequencing)
    (orders → u = w.holdOrder c .seized) ∧ (¬orders → u = w) ∧
    (orders → s.phase c ≠ .outOfService → s.phase c ≠ .lockedOut → (u.seq c).holds.seized = true) ∧
    (orders → sequencing → u.phase c = .hold) ∧ (¬orders → u.phase c = s.phase c)

/-- The holder's silence: the chamber loses its holder, which outside IDLE and OUT_OF_SERVICE gives the hold order NO_HOLDER, and a
pending claim is granted at once, which takes NO_HOLDER out of the hold set again; one AUTHORITY_CHANGED carries the state after both
(R66, R188, R193). The claimant's silence: the pending claim is dropped, and a waiting release then takes effect, with the hold order
NO_HOLDER (R194); that AUTHORITY_CHANGED then carries CLAIMANT_SILENCE is log 62 (DESIGN CHOICE). -/
def Obligations.SilencesExpire : Prop :=
  ∀ (dt : Nat) (c : Chamber) (o : Operator) (b : ConfigBlock) (last : Nat) (s : State), s.isHeld = false →
    s.start.image = some b → (s.port o.link).lastFrame = some last → last + b.holderSilenceLimit * 1000 ≤ s.now + dt →
    let before := s.auth.get c
    (before.holder = some o →
      TakesPlace s dt (fun u => u.holderSilent c) { s.frame with now := s.now + dt } (exec (.holderSilence dt c) s) ∧
      (∀ t, exec (.holderSilence dt c) s = .next t → t.auth.get c = ⟨before.pendingClaim, none, false⟩) ∧
      let u := (s.beginEvent dt).holderSilent c
      let lost := orderedNoHolder { s.beginEvent dt with auth := s.auth.set c ⟨none, none, false⟩ } c
      let granted : State :=
        if before.pendingClaim = none then lost
        else noHolderRemoved { lost with auth := s.auth.set c ⟨before.pendingClaim, none, false⟩ } c
      u = { granted with event := { granted.event with
              produced := granted.event.produced ++ [.authorityChanged c (some o) .silence] } } ∧
        heldWithoutHolder s lost c ∧ u.phase c = lost.phase c ∧
        (before.pendingClaim ≠ none → (u.seq c).holds = { (lost.seq c).holds with noHolder := false })) ∧
    (before.pendingClaim = some o →
      TakesPlace s dt (fun u => u.dropPending c .claimantSilence) { s.frame with now := s.now + dt }
        (exec (.claimantSilence dt c) s) ∧
      let after : Authority := if before.releaseWaiting then ⟨none, none, false⟩ else ⟨before.holder, none, false⟩
      (∀ t, exec (.claimantSilence dt c) s = .next t → t.auth.get c = after) ∧
      let u := (s.beginEvent dt).dropPending c .claimantSilence
      let dropped := authorityBecomes (s.beginEvent dt) c after .claimantSilence
      (before.releaseWaiting = false → u = dropped) ∧
      (before.releaseWaiting = true → u = orderedNoHolder dropped c ∧ heldWithoutHolder s u c))

/-! ### Lockages -/

/-- The snapshot that a new lockage record takes (R159), with the band of the clock's hour of week (R154). -/
def snapshotOf (s : State) : Snapshot :=
  let clockSet := s.charge.clock.isSet
  match s.charge.current with
  | none =>
    { version := 0, rates := ⟨⟨0, 0⟩, ⟨0, 0⟩, ⟨0, 0⟩, ⟨0, 0⟩⟩, water := 0, band := 0, factor := 0, clockSet }
  | some t =>
    let band := if clockSet then t.bandMap.getD (s.lockTime.weekday * 24 + s.lockTime.second / 3600) 0 else 0
    let factor :=
      match band with
      | 0 => t.factors.f0
      | 1 => t.factors.f1
      | 2 => t.factors.f2
      | _ => t.factors.f3
    { version := t.version, rates := t.rates, water := t.water, band, factor, clockSet }

/-- A chamber enters FORMING with a new lockage record (R45, R47): the next serial, the direction, the snapshot, the present lock
time, an empty plan and no marks. -/
def formingIn (s : State) (c : Chamber) (d : Direction) : State :=
  let serial := if s.acct.serial = 4294967295 then 1 else s.acct.serial + 1
  { s with
    acct := { s.acct with serial }
    seqs := s.seqs.set c
      { s.seq c with
        phase := .forming, stepWait := none, levelTimer := none, timerDue := false, levelReached := false,
        levelLostRaised := false
        lockage := some
          { serial, direction := d, plan := [], usedLength := 0, reservation := .none, snapshot := snapshotOf s,
            startTime := s.lockTime, startMark := none, endMark := none, crossStart := none, crossEnd := none,
            crossUsed := false, emergency := false } }
    event := .blank }

/-- One vessel of the formation walk (R128): it is taken when it passes the seven tests of R125; the first failed test becomes its
deferral reason otherwise (R119). -/
def walkStep (c : Chamber) (s : State) (h : Nat) : State :=
  let deferred (r : Deferral) : State :=
    { s with traffic := { s.traffic with
      vessels := s.traffic.vessels.map fun x => if x.handle = h then { x with deferral := some r } else x } }
  match s.vessel? h, (s.seq c).lockage with
  | some v, some l =>
    match firstFailed s c l v, hasSpace s l v with
    | none, true => takenInto s c v l
    | none, false => deferred .recordSpace
    | some r, _ => deferred r
  | _, _ => s

/-- START LOCKAGE takes an IDLE chamber into FORMING with a new lockage record: the next serial, the direction, the present lock
time, the snapshot of R159, and no marks (R46, R47). The formation walk then takes or defers each vessel of the direction's queue in
its order, by the seven tests of R125 (R128, R119). -/
def Obligations.StartLockageEntersForming : Prop :=
  ∀ (dt : Nat) (f : Frame) (o : Operator) (c : Chamber) (d : Direction) (s : State), Ready s f → f.lengthMatches = true →
    f.link.operator? = some o → s.holder c = some o → s.phase c = .idle → s.start.stage = .ended →
    CarriedOut s dt f 5 .none (fun u => u.enterForming c d []) (exec (.startLockage dt f (some c) (some d)) s) ∧
    let u := (s.taken dt f).enterForming c d []
    { u with event := .blank } =
      (s.traffic.queues.get d.entryEnd).foldl (walkStep c) (formingIn (s.taken dt f) c d) ∧
    Produced.phaseChanged c .idle ∈ u.event.produced ∧ u.phase c = .forming ∧ u.seq c.other = s.seq c.other ∧
      u.acct.serial = (if s.acct.serial = 4294967295 then 1 else s.acct.serial + 1) ∧
      ∃ l, (u.seq c).lockage = some l ∧ l.serial = u.acct.serial ∧ l.direction = d ∧ l.startTime = s.lockTime ∧
        l.snapshot = snapshotOf s ∧ l.startMark = none ∧ l.endMark = none ∧ l.crossStart = none ∧
        l.crossEnd = none ∧ l.crossUsed = false ∧ ∀ e ∈ l.plan, e.aboard = false

/-- CLOSE ENTRY takes the listed vessels out of the plan, lowers the used length by each one's length and the vessel spacing, returns
them to their approach queues by the queue's keys with their deferral reasons absent, gives an emptied plan's reservation back to the
accounting unit, makes every remaining entry ABOARD, and enters ENTRY_CLOSING (R52, R114, R115, R130, R131, R173). -/
def Obligations.CloseEntryBoardsTheRest : Prop :=
  ∀ (dt : Nat) (f : Frame) (o : Operator) (c : Chamber) (list : List (Nat × Option Mark)) (l : LockageRecord) (s : State),
    Ready s f → f.lengthMatches = true → f.link.operator? = some o → s.holder c = some o → s.phase c = .entry →
    (s.seq c).lockage = some l → s.listFault c list = none →
    CarriedOut s dt f 7 .none (fun u => (u.closeList c (list.map Prod.fst)).enterPhase c .entryClosing)
      (exec (.closeEntry dt f (some c) list) s) ∧
    let u := (s.taken dt f).closeList c (list.map Prod.fst)
    let out := list.map Prod.fst
    let plan := (l.plan.filter fun e => e.handle ∉ out).map fun e => PlanEntry.mk e.handle true
    let room := ((out.filterMap s.vessel?).map fun v => v.length + s.cfg.vesselSpacing).sum
    let freed := plan = [] ∧ l.reservation ≠ .none
    (u.enterPhase c .entryClosing).phase c = .entryClosing ∧
      (u.seq c).lockage = some
        { l with
          plan, usedLength := l.usedLength - room, reservation := if freed then .none else l.reservation } ∧
      u.acct = { s.acct with reservations := if freed then s.acct.reservations - 1 else s.acct.reservations } ∧
      (∀ h, u.vessel? h =
        if h ∈ out then (s.vessel? h).map fun v => { v with state := .waiting, deferral := none }
        else if h ∈ plan.map (·.handle) then (s.vessel? h).map fun v => { v with state := .aboard c }
        else s.vessel? h) ∧
      ∀ e, (u.traffic.queues.get e).Perm
          (s.traffic.queues.get e ++
            out.filter fun h => (s.vessel? h).map (fun v => v.direction.entryEnd) = some e) ∧
        (queueOrdered s (s.traffic.queues.get e) →
          (∀ h ∈ s.traffic.queues.get e, h ∉ out ∧ (s.vessel? h).isSome = true) →
          queueOrdered u (u.traffic.queues.get e))

/-- One saved vessel of a pop (R137): it is tested against the chamber and the plan being built, and taken when it passes the seven
tests of R125; one that fails returns to its queue by the queue's keys (R115), with the failed test as its deferral reason. -/
def recheckStep (c : Chamber) (s : State) (h : Nat) : State :=
  let returned (v : Vessel) (r : Deferral) : State :=
    let e := v.direction.entryEnd
    { s with traffic := { s.traffic with
      vessels := s.traffic.vessels.map fun x =>
        if x.handle = h then { v with state := .waiting, deferral := some r } else x
      queues := s.traffic.queues.set e (s.placeIn v (s.traffic.queues.get e)) } }
  match s.vessel? h, (s.seq c).lockage with
  | some v, some l =>
    match firstFailed s c l v, hasSpace s l v with
    | none, true => takenInto s c v l
    | none, false => returned v .recordSpace
    | some r, _ => returned v r
  | _, _ => s

/-- A pop (R137): the top saved plan leaves the stack, the chamber enters FORMING in its direction with a new lockage record, serial,
start time and snapshot (R47), its hold record empty; the saved vessels are re-checked in their order, and the direction's queue, as
the re-check leaves it, is walked (R128). -/
def popped (s : State) (c : Chamber) (p : SavedPlan) (rest : List SavedPlan) : State :=
  let w : State :=
    { s with
      traffic := { s.traffic with planStacks := s.traffic.planStacks.set c rest }
      seqs := s.seqs.set c { s.seq c with holds := ⟨false, false, false, false, false, false⟩, resume := none } }
  let r := p.handles.foldl (recheckStep c) (formingIn w c p.direction)
  (r.traffic.queues.get p.direction.entryEnd).foldl (walkStep c) r

/-- EXIT DONE deletes the plan's vessels, discards the record and enters IDLE; with a saved plan on the stack the top one is
popped: the chamber enters FORMING in its direction with a new lockage record (R47), and its saved vessels are re-checked in their
order before the walk (R58, R128, R137). -/
def Obligations.ExitDoneEndsLockage : Prop :=
  ∀ (dt : Nat) (f : Frame) (o : Operator) (c : Chamber) (l : LockageRecord) (s : State), Ready s f →
    f.lengthMatches = true → f.link.operator? = some o → s.holder c = some o → s.phase c = .exit →
    (s.seq c).lockage = some l →
    CarriedOut s dt f 8 .none (fun u => (u.deletePlan c).enterIdle c) (exec (.exitDone dt f (some c)) s) ∧
    let u := ((s.taken dt f).deletePlan c).enterIdle c
    (s.traffic.planStacks.get c = [] →
      u.phase c = .idle ∧ (u.seq c).lockage = none ∧ u.acct = s.acct ∧
        ∀ h, u.vessel? h = if h ∈ l.plan.map (·.handle) then none else s.vessel? h) ∧
    ∀ p rest, s.traffic.planStacks.get c = p :: rest →
      u.phase c = .forming ∧ u.direction? c = some p.direction ∧ u.traffic.planStacks.get c = rest ∧
      let gone : State :=
        { s.taken dt f with traffic :=
          { s.traffic with
            vessels := s.traffic.vessels.filter fun v => v.handle ∉ l.plan.map (·.handle)
            queues := s.traffic.queues.map fun q => q.filter fun h => h ∉ l.plan.map (·.handle) } }
      { u with event := .blank } = popped gone c p rest

/-- What a STOP request makes of a record at the time `now` (R7): nothing in a barred chamber; a STOP entry in place of a queued
START, or for a START on the line or a movement that awaits DONE; and in every case no next start (log 37). -/
def stopMade (r : DeviceRecord) (barred : Bool) (now : Nat) : DeviceRecord :=
  let start (t : Option Task) : Prop := t = some (.start .toOpen) ∨ t = some (.start .toClose)
  let moves : Prop := r.outstanding = some (.move .toOpen) ∨ r.outstanding = some (.move .toClose)
  if barred = true then r
  else if start (r.queued.map (·.task)) ∨ (r.queued = none ∧ (start r.onLine ∨ (r.awaitingDone = true ∧ moves))) then
    { r with outstanding := some .stop, queued := some ⟨.stop, now⟩, nextStart := none }
  else { r with nextStart := none }

/-- `u` is `s` after STOP requests for the two gates and two sluices of a chamber, as far as they go (R65). -/
def chamberStopped (s u : State) (c : Chamber) : Prop :=
  ∀ d ∈ c.devices, u.dev d = stopMade (s.dev d) (s.drive.barred.get c) s.now

/-- A hold order in IDLE or a working phase enters HOLD with the reason alone and records the phase to resume, LEVELLING for
CROSSING; for every reason but NO_HOLDER it issues STOP requests for the chamber's two gates and two sluices, and for NO_HOLDER it
leaves them alone (R65). In HOLD the reason joins the set, and COMMANDED, SEIZED or SILL issues those STOP requests then; in SAFING it
joins the set; elsewhere nothing happens (R64). HOLD_ENTERED reports each (R72). HOLD gives the order with COMMANDED.
That a STOP request which places no STOP entry still clears the next start is log 37. -/
def Obligations.HoldOrdersHold : Prop :=
  (∀ (s : State) (c : Chamber) (r : HoldReason),
    let u := s.holdOrder c r
    ((s.phase c = .idle ∨ (s.phase c).working = true) →
      u.phase c = .hold ∧ (u.seq c).resume = some (if s.phase c = .crossing then .levelling else s.phase c) ∧
        (∀ x, (u.seq c).holds.has x = decide (x = r)) ∧ (u.seq c).stepWait = none ∧ (u.seq c).levelTimer = none ∧
        (u.seq c).lockage = (s.seq c).lockage ∧ (s.phase c = .crossing → u.cross.claims.get c = none) ∧
        (r ≠ .noHolder → chamberStopped s u c) ∧ (r = .noHolder → ∀ d ∈ c.devices, u.dev d = s.dev d) ∧
        (∀ d ∈ c.other.devices, u.dev d = s.dev d) ∧ (s.phase c ≠ .crossing → u.dev .xv = s.dev .xv) ∧
        u.event.produced = s.event.produced ++ [.phaseChanged c (s.phase c), .holdEntered c r]) ∧
    ((s.phase c = .hold ∨ s.phase c = .safing) →
      u.phase c = s.phase c ∧ (u.seq c).resume = (s.seq c).resume ∧
        (∀ x, (u.seq c).holds.has x = ((s.seq c).holds.has x || decide (x = r))) ∧
        (let stops : Prop := s.phase c = .hold ∧ (r = .commanded ∨ r = .seized ∨ r = .sill)
         (stops → chamberStopped s u c) ∧ (¬stops → u.drive = s.drive)) ∧
        (∀ d, d ∉ c.devices → u.dev d = s.dev d) ∧
        u.event.produced = s.event.produced ++ [.holdEntered c r]) ∧
    ((s.phase c = .outOfService ∨ s.phase c = .lockedOut) → u = s)) ∧
  ∀ (dt : Nat) (f : Frame) (o : Operator) (c : Chamber) (s : State), Ready s f → f.lengthMatches = true →
    f.link.operator? = some o → s.holder c = some o → (s.phase c = .idle ∨ s.phase c = .hold ∨ (s.phase c).working = true) →
    CarriedOut s dt f 9 .none (fun u => u.holdOrder c .commanded) (exec (.hold dt f (some c)) s)

/-- RESUME empties the hold set and enters the resume phase again with the lockage record kept; ABANDON gives ASSIGNED vessels back,
each to its approach queue at the place that the queue's keys give it (R114, R115), deletes those ABOARD, releases the reservation,
posts nothing and enters IDLE (R67, R68); a saved plan on the stack is then popped: a new lockage record, the re-check of its saved
vessels in their order, and the walk (R47, R137). -/
def Obligations.ResumeAndAbandonLeaveHold : Prop :=
  ∀ (dt : Nat) (f : Frame) (o : Operator) (c : Chamber) (s : State), Ready s f → f.lengthMatches = true →
    f.link.operator? = some o → s.holder c = some o → s.phase c = .hold →
    (∀ p, (s.seq c).holds.resumable = true → (s.seq c).resume = some p → p ≠ .crossing →
      CarriedOut s dt f 10 .none (fun u => u.resume c) (exec (.resume dt f (some c)) s) ∧
      let u := (s.taken dt f).resume c
      u.phase c = p ∧ (u.seq c).holds = .empty ∧ (u.seq c).resume = none ∧ u.acct = s.acct ∧ u.traffic = s.traffic ∧
        (u.seq c).lockage.map (fun l => (l.serial, l.plan, l.reservation)) =
          (s.seq c).lockage.map (fun l => (l.serial, l.plan, l.reservation))) ∧
    ((s.seq c).holds.fault = false →
      CarriedOut s dt f 11 .none (fun u => u.abandon c) (exec (.abandon dt f (some c)) s) ∧
      let u := (s.taken dt f).abandon c
      let given : State :=
        { s.taken dt f with
          traffic := ((s.taken dt f).abandonPlan c).traffic
          acct := { s.acct with
            reservations := if s.holdsReservation c then s.acct.reservations - 1 else s.acct.reservations } }
      let plan : List Nat := match (s.seq c).lockage with
        | some l => l.plan.map (·.handle)
        | none => []
      let aboard (h : Nat) : Bool := decide (h ∈ plan ∧ (s.vessel? h).map (·.state) = some (.aboard c))
      given.traffic.planStacks = s.traffic.planStacks ∧ given.traffic.admission = s.traffic.admission ∧
      (∀ h, given.vessel? h =
        if aboard h then none
        else if h ∈ plan then (s.vessel? h).map fun v => { v with state := .waiting, deferral := none }
        else s.vessel? h) ∧
      (∀ e, (given.traffic.queues.get e).Perm
          ((s.traffic.queues.get e).filter (fun h => !aboard h) ++
            plan.filter fun h => !aboard h && decide ((s.vessel? h).map (fun v => v.direction.entryEnd) = some e)) ∧
        (queueOrdered s (s.traffic.queues.get e) → plan.Nodup →
          (∀ h ∈ s.traffic.queues.get e, h ∉ plan ∧ (s.vessel? h).isSome = true) →
          queueOrdered given (given.traffic.queues.get e))) ∧
      (s.traffic.planStacks.get c = [] →
        u.phase c = .idle ∧ (u.seq c).lockage = none ∧ (u.seq c).holds = .empty ∧ (u.seq c).resume = none ∧
          u.acct = given.acct ∧ u.traffic = given.traffic) ∧
      ∀ p rest, s.traffic.planStacks.get c = p :: rest →
        u.phase c = .forming ∧ u.direction? c = some p.direction ∧ u.traffic.planStacks.get c = rest ∧
          { u with event := .blank } = popped given c p rest)

/-- What a status query makes of a record at the time `now` (R8): the query flag is set; a queued START gives way to a STATUS entry,
its outstanding command and next start none; a device at rest, or one that awaits DONE with nothing queued and nothing on the line,
gets a STATUS entry; in any other state the STATUS that ends the cycle answers the query. -/
def queryMade (r : DeviceRecord) (now : Nat) : DeviceRecord :=
  let start : Prop := r.queued.map (·.task) = some (.start .toOpen) ∨ r.queued.map (·.task) = some (.start .toClose)
  let entry : Option QueueEntry := some ⟨.status, now⟩
  if start then { r with queryFlag := true, queued := entry, outstanding := none, nextStart := none }
  else if r.queued = none ∧ r.onLine = none ∧ (r.awaitingDone = true ∨ r.outstanding = none) then
    { r with queryFlag := true, queued := entry }
  else { r with queryFlag := true }

/-- ACKNOWLEDGE FAULT acknowledges the record, removes FAULT and queries the chamber's FAULTED devices, and no other device; with
subject CROSS it queries a FAULTED XV, whose CROSS_CONFLICT then waits no longer (R101; log 61); CLEAR LOCKOUT empties the record,
clears the bar, queries the four devices and enters HOLD with COMMANDED, whose STOP requests follow the queries (R8, R65, R84, R95,
R99). -/
def Obligations.AcknowledgementsQuery : Prop :=
  ∀ (dt : Nat) (f : Frame) (s : State), Ready s f → f.lengthMatches = true →
    let now := s.now + dt
    (∀ o c, f.link.operator? = some o → s.holder c = some o → s.phase c = .hold → (s.seq c).holds.fault = true →
      CarriedOut s dt f 12 .none (fun u => u.acknowledge c) (exec (.acknowledgeFault dt f (some c)) s) ∧
      let u := (s.taken dt f).acknowledge c
      (u.seq c).faults = { (s.seq c).faults with acknowledged := true } ∧
        (∀ x, (u.seq c).holds.has x = ((s.seq c).holds.has x && decide (x ≠ .fault))) ∧ u.phase c = .hold ∧
        ∀ d, u.dev d = if d ∈ c.devices ∧ (s.dev d).position = .faulted then queryMade (s.dev d) now else s.dev d) ∧
    (f.link = .desk → (s.dev .xv).position = .faulted →
      (∃ t, exec (.acknowledgeFaultCross dt f) s = .next t ∧
        t = (((s.taken dt f).acknowledgeCross).replied f 12 .ok .none).finish ∧ LinksAnswered s t dt f 12 .ok .none ∧
        t.frame = { s.frame with now, drive := { s.frame.drive with conflictKept := false } }) ∧
      ((s.taken dt f).acknowledgeCross).drive.conflictKept = false ∧
      ∀ d, ((s.taken dt f).acknowledgeCross).dev d = if d = .xv then queryMade (s.dev d) now else s.dev d) ∧
    ∀ c, f.link = .desk → s.phase c = .lockedOut →
      CarriedOut s dt f 17 .none (fun u => u.clearLockout c) (exec (.clearLockout dt f (some c)) s) ∧
      let u := (s.taken dt f).clearLockout c
      u.phase c = .hold ∧ (u.seq c).faults = ⟨none, none, false⟩ ∧
        (∀ x, (u.seq c).holds.has x = decide (x = .commanded)) ∧ (u.seq c).resume = (s.seq c).resume ∧
        (u.seq c).lockage = (s.seq c).lockage ∧ u.drive.barred = s.drive.barred.set c false ∧
        ∀ d, u.dev d = if d ∈ c.devices then stopMade (queryMade (s.dev d) now) false now else s.dev d

/-- What a START request makes of a record at the time `now` (R6): refused by a FAULTED or barred device, complete where the target
is reached, placed in the queue or in place of a queued START, and kept as the next start while anything else is under way. -/
def startTaken (r : DeviceRecord) (barred atTarget : Bool) (now : Nat) (k : Target) : DeviceRecord :=
  if r.position = .faulted ∨ barred = true then r
  else if r.atRest = true ∧ atTarget = true then r
  else if r.atRest = true ∨ r.startQueued = true then
    { r with outstanding := some (.move k), queued := some ⟨.start k, now⟩ }
  else { r with nextStart := some k }

/-- A START request for a device at the time `now` (R6). -/
def startMade (s : State) (now : Nat) (d : Device) (k : Target) : DeviceRecord :=
  startTaken (s.dev d) (s.isBarred d) (s.reached d k) now k

/-- `u` is the state after the step wait for `d` and `k` is released in the state `s` (R62): the wait is removed and the START
request is made; with the governing head red-dark no START is made and the chamber enters HOLD with SIGNAL (R51, R146). -/
def StepReleased (s : State) (now : Nat) (c : Chamber) (d : Device) (k : Target) (u : State) : Prop :=
  (u.seq c).stepWait = none ∧
    (s.governedDark c = true → u.phase c = .hold ∧ (u.seq c).holds.signal = true ∧
      ∀ x, (u.dev x).startQueued = true → (s.dev x).startQueued = true) ∧
    (s.governedDark c = false → u.phase c = s.phase c ∧ ∀ x, u.dev x = if x = d then startMade s now d k else s.dev x)

/-- SET MODE writes the step mode; to AUTO it releases a step wait as ADVANCE does (R63). ADVANCE removes the step wait and makes the
waiting START request, unless the governing head is red-dark (R61, R62). -/
def Obligations.SetModeAndAdvance : Prop :=
  ∀ (dt : Nat) (f : Frame) (o : Operator) (c : Chamber) (s : State), Ready s f → f.lengthMatches = true →
    f.link.operator? = some o → s.holder c = some o →
    (∀ m, s.phase c ≠ .lockedOut →
      (∃ t, exec (.setMode dt f (some c) (some m)) s = .next t ∧
        t = (((s.taken dt f).setMode c m).replied f 13 .ok .none).finish ∧ LinksAnswered s t dt f 13 .ok .none ∧
        (t.seq c).stepMode = m ∧ (t.seq c.other).stepMode = (s.seq c.other).stepMode ∧
        t.frame = { s.frame with now := s.now + dt, seqs := t.frame.seqs }) ∧
      let w := (s.taken dt f).modSeq c fun q => { q with stepMode := m }
      let u := (s.taken dt f).setMode c m
      (m = .step → u = w) ∧ ((s.seq c).stepWait = none → u = w) ∧
        ∀ d k, m = .auto → (s.seq c).stepWait = some (d, k) →
          u = w.releaseStep c ∧ StepReleased s (s.now + dt) c d k u) ∧
    ∀ d k, advanceable (s.phase c) = true → (s.seq c).stepWait = some (d, k) →
      CarriedOut s dt f 14 .none (fun u => u.releaseStep c) (exec (.advance dt f (some c)) s) ∧
      StepReleased s (s.now + dt) c d k ((s.taken dt f).releaseStep c)

/-- SET SERVICE takes an IDLE chamber out of service, and back in to IDLE under a VALID configuration (R71); SET ADMISSION writes
the chamber's admission level (R118). -/
def Obligations.ServiceAndAdmission : Prop :=
  ∀ (dt : Nat) (f : Frame) (o : Operator) (c : Chamber) (s : State), Ready s f → f.lengthMatches = true →
    f.link.operator? = some o → s.holder c = some o →
    (s.phase c = .idle →
      CarriedOut s dt f 15 .none (fun u => u.enterPhase c .outOfService)
        (exec (.setService dt f (some c) (some .out)) s) ∧
      ((s.taken dt f).enterPhase c .outOfService).phase c = .outOfService) ∧
    (s.phase c = .outOfService → s.configValid = true →
      CarriedOut s dt f 15 .none (fun u => u.enterPhase c .idle) (exec (.setService dt f (some c) (some .into)) s) ∧
      ((s.taken dt f).enterPhase c .idle).phase c = .idle) ∧
    ∀ n, s.phase c ≠ .lockedOut → n ≤ 7 →
      ∃ t, exec (.setAdmission dt f (some c) n) s = .next t ∧
        t = { s with
              now := s.now + dt
              traffic := { s.traffic with admission := s.traffic.admission.set c n }
              links := t.links
              event := .blank } ∧
        LinksReplied s t dt f 16 .ok .none

/-! ### The sequencer's own progress -/

/-- A device has reached a target (R44). -/
def hasReached (s : State) (d : Device) : Target → Prop
  | .toClose => StandsClosed s d
  | .toOpen => (s.dev d).position = .opened

/-- The chamber is equalized with the pound at an end (R35). -/
def levelWith (s : State) (c : Chamber) (e : End) : Prop := (s.levels.counters.get c).get e = 3

/-- The target of a device of the chamber in its present phase, by the phase table (R49, R50, R51, R53, R55, R57). -/
def hasTarget (s : State) (c : Chamber) (l : LockageRecord) (d : Device) (k : Target) : Prop :=
  let entry := l.direction.entryEnd
  let exit := l.direction.exitEnd
  let levelTarget : Target := if (s.seq c).levelReached then .toClose else .toOpen
  match s.phase c, d with
  | .turning, .gate _ e => k = .toClose ∧ ((s.seq c).entryExcuse = true → e ≠ entry)
  | .turning, .sluice _ _ => k = .toClose
  | .preLevelling, .sluice _ e => e = entry ∧ k = levelTarget
  | .levelling, .sluice _ e => e = exit ∧ k = levelTarget
  | .entryOpening, .gate _ e => e = entry ∧ k = .toOpen
  | .exitOpening, .gate _ e => e = exit ∧ k = .toOpen
  | .entryClosing, .gate _ e => e = entry ∧ k = .toClose
  | _, _ => False

/-- The entry gate that the choice of FORMING and the entry excuse pass over (R48 test 2, R49). -/
def entryGateExcused (s : State) (c : Chamber) (d : Direction) : Prop :=
  let g := s.dev (.gate c d.entryEnd)
  (g.position = .opened ∨ g.position = .stopped) ∧ levelWith s c d.entryEnd

/-- The first of R48's tests that holds gives the phase that follows FORMING. -/
def chosenByForming (s : State) (c : Chamber) (d : Direction) (p : Phase) : Prop :=
  let entry := d.entryEnd
  let sluices : Prop := ∀ e, StandsClosed s (.sluice c e)
  let first : Prop := (s.dev (.gate c entry)).position = .opened ∧ levelWith s c entry ∧ sluices
  let second : Prop := (∃ e, ¬StandsClosed s (.gate c e) ∧ ¬(e = entry ∧ entryGateExcused s c d)) ∨ ¬sluices
  (first → p = .entry) ∧ (¬first → second → p = .turning) ∧
    (¬first → ¬second → (¬levelWith s c entry → p = .preLevelling) ∧ (levelWith s c entry → p = .entryOpening))

/-- The ending condition of the present phase holds, and `p` is the phase that follows (R48, R49, R50, R51, R53, R55, R57). That a
levelling phase waits for its sluice while a START of it is queued or on the line is log 52 (DEDUCED). -/
def LeadsTo (s : State) (c : Chamber) (l : LockageRecord) (p : Phase) : Prop :=
  let entry := l.direction.entryEnd
  let exit := l.direction.exitEnd
  let levelled (e : End) : Prop :=
    let r := s.dev (.sluice c e)
    (s.seq c).levelReached = true ∧ StandsClosed s (.sluice c e) ∧
      ∀ k, r.queued.map (·.task) ≠ some (.start k) ∧ r.onLine ≠ some (.start k)
  match s.phase c with
  | .forming =>
    (∀ d ∈ c.devices, (s.dev d).outstanding = none ∧ (s.dev d).queued = none ∧ (s.dev d).onLine = none ∧
      (s.dev d).awaitingDone = false) ∧ chosenByForming s c l.direction p
  | .turning =>
    (∀ e, StandsClosed s (.sluice c e) ∧
      (StandsClosed s (.gate c e) ∨ ((s.seq c).entryExcuse = true ∧ e = entry))) ∧
      (levelWith s c entry → p = .entryOpening) ∧ (¬levelWith s c entry → p = .preLevelling)
  | .preLevelling => levelled entry ∧ p = .entryOpening
  | .entryOpening => (s.dev (.gate c entry)).position = .opened ∧ p = .entry
  | .entryClosing =>
    StandsClosed s (.gate c entry) ∧
      p = if s.cfg.crossWaitLimit ≠ 0 ∧ (s.dev .xv).position ≠ .faulted then .crossing else .levelling
  | .levelling => levelled exit ∧ p = .exitOpening
  | .exitOpening => (s.dev (.gate c exit)).position = .opened ∧ p = .exit
  | _ => False

/-- The marks of a record that enters LEVELLING already level, `x` being the chamber's last valid level (R55, R56). -/
def markedLevel (l : LockageRecord) (x : Option Int) : LockageRecord :=
  { l with
    startMark := if l.startMark = none then x else l.startMark
    endMark := if x = none then l.endMark else x }

/-- `u` is `s` after the chamber has entered the phase `p`, which is not CROSSING (R45): the step wait and the level timer are gone,
level reached says whether the chamber is equalized with the pound of a levelling phase (R50, R55), the level timer is due where it
is not (R59), TURNING sets the entry excuse (R49), and LEVELLING that finds the chamber level sets the marks (R55, R56). No device
is asked for anything. PHASE_CHANGED is produced; LEVEL_LOST is raised where it is due at once (R60), then each standing fault of a
device whose target is not reached (R96). -/
def Enters (s u : State) (c : Chamber) (p : Phase) : Prop :=
  ∃ l, (s.seq c).lockage = some l ∧
    let pound : Option End :=
      match p with
      | .preLevelling => some l.direction.entryEnd
      | .levelling => some l.direction.exitEnd
      | _ => none
    let level : Bool := pound.any fun e => decide ((s.levels.counters.get c).get e = 3)
    let low : Bool := pound.any fun e => decide ((s.levels.counters.get c).get e ≠ 3)
    let lost : Bool := pound.any fun e => low && ([Place.chamber c, .pound e].any fun x =>
      (s.lostAge? x).any fun n => decide (s.cfg.levelLostLimit * 1000 ≤ n))
    (∃ b : Bool, (b = true ↔ entryGateExcused s c l.direction) ∧
      u.seq c =
        { s.seq c with
          phase := p
          lockage := some
            (if p = .levelling ∧ level = true then markedLevel l ((s.levels.pairs.get (.chamber c)).last.map (·.value)) else l)
          stepWait := none, levelTimer := none, levelReached := level, timerDue := low, levelLostRaised := lost
          entryExcuse := if p = .turning then b else (s.seq c).entryExcuse }) ∧
    u.seq c.other = s.seq c.other ∧
    ∃ standing : List Report,
      u = { s with
            seqs := u.seqs
            event :=
              { s.event with
                produced := s.event.produced ++ [.phaseChanged c (s.phase c)]
                reports := s.event.reports ++ (if lost then [.chamber c ⟨.levelLost, none, s.lockTime⟩] else []) ++ standing } } ∧
      ∀ r, r ∈ standing ↔ ∃ d ∈ c.devices, ∃ k f, hasTarget u c l d k ∧ ¬hasReached s d k ∧
        (s.dev d).position = .faulted ∧ (s.dev d).queryFlag = false ∧ s.event.faultedBefore.get d = true ∧
        (s.dev d).faultKind = some f ∧ r = .chamber c ⟨f, some d, s.lockTime⟩

/-- `u` is `s` after the chamber has entered CROSSING (R54, R75): it stands there with a claim of its need, which is DRAIN where the
chamber stands above its exit pound by more than the equalize window and FILL where it stands below it so, with its wait running; with
no need, or a level that is not usable, it goes on to LEVELLING at once. -/
def EntersCrossing (s u : State) (c : Chamber) : Prop :=
  ∀ l, (s.seq c).lockage = some l →
    let w : State :=
      { s with
        seqs := s.seqs.set c
          { s.seq c with
            phase := .crossing, stepWait := none, levelTimer := none, timerDue := false, levelReached := false
            levelLostRaised := false }
        event := { s.event with produced := s.event.produced ++ [.phaseChanged c (s.phase c)] } }
    let claims (n : Need) : Prop :=
      u = { w with
            cross :=
              { w.cross with
                claims := w.cross.claims.set c (some ⟨n, s.now, s.now + s.cfg.crossWaitLimit * 1000, true⟩) } }
    let window : Int := s.cfg.equalizeWindow
    match s.level? (.chamber c), s.level? (.pound l.direction.exitEnd) with
    | some x, some y =>
      (window < x - y → claims .drain) ∧ (window < y - x → claims .fill) ∧
        (x - y ≤ window → y - x ≤ window → Enters w u c .levelling)
    | _, _ => Enters w u c .levelling

/-- A chamber in a working phase with a holder enters the next phase when the ending condition of its phase holds, and only then
(R44, R45): the choice of FORMING (R48), TURNING (R49), the levelling phases (R50, R55), the opening phases (R51, R57),
ENTRY_CLOSING (R53) and the entry to CROSSING (R54, R75). EXIT_OPENING hands the lockage over first, once: with a reservation its
charges are computed and posted and the reservation becomes none; without one nothing is posted (R57, R160, R174). Without a holder,
and outside the working phases, the sequencer does nothing of itself (R44). That a levelling phase waits while a START of its sluice
is queued or on the line is log 52, that a chamber without a need goes on to LEVELLING before LEVEL_LOST is tested log 42 (DEDUCED);
that the entry excuse keeps its value after TURNING is log 54, that LEVEL_LOST goes before a standing fault log 55 (DESIGN CHOICE).
-/
def Obligations.PhasesFollow : Prop :=
  ∀ (s : State) (c : Chamber),
    ((s.holder c = none ∨ s.phase c ∈ [Phase.outOfService, .idle, .hold, .safing, .lockedOut]) → s.workTest? c = none) ∧
    ∀ l, (s.seq c).lockage = some l →
      (∀ p, s.nextPhase? c l.direction = some p ↔ LeadsTo s c l p) ∧
      ∀ p, s.holder c ≠ none → LeadsTo s c l p →
        let handsOver : Prop := s.phase c = .exitOpening ∧ l.reservation ≠ .none
        let r := s.chargeRecord c l (l.plan.filterMap fun e => s.vessel? e.handle)
        ∃ w u, s.workTest? c = some u ∧ (¬handsOver → w = s) ∧
          (handsOver →
            w = { s with
                  acct := s.acct.post r
                  seqs := s.seqs.set c { s.seq c with lockage := some { l with reservation := .none } }
                  event := { s.event with
                    produced := s.event.produced ++
                      .recordPosted l.serial c s.acct.period ((r.entries.map fun e => e.own + e.share).sum + r.unallocated) ::
                        if 64 - w.acct.reservations - w.acct.journal.length ≤ 8 then [.journalLow] else [] } }) ∧
          (p ≠ .crossing → Enters w u c p) ∧ (p = .crossing → EntersCrossing w u c)

/-- The command for a device is due (R44): it has a target in the phase, an opening phase is level with its pound (R51, R57), the
chamber is not barred (R6, R25), the target is not reached, the device is not FAULTED, and neither its outstanding command nor its
next start is the target. A sluice to close that stands closed with its START OPEN still queued is due too (log 52, DEDUCED). -/
def Due (s : State) (c : Chamber) (l : LockageRecord) (d : Device) (k : Target) : Prop :=
  let r := s.dev d
  hasTarget s c l d k ∧ (s.phase c = .entryOpening → levelWith s c l.direction.entryEnd) ∧
    (s.phase c = .exitOpening → levelWith s c l.direction.exitEnd) ∧ s.isBarred d = false ∧
    (¬hasReached s d k ∨
      ((s.seq c).levelReached = true ∧ k = .toClose ∧ r.queued.map (·.task) = some (.start .toOpen))) ∧
    r.position ≠ .faulted ∧ r.outstanding ≠ some (.move k) ∧ r.nextStart ≠ some k

/-- The first command due in the order upper gate, upper sluice, lower gate, lower sluice (R49, R61). -/
def FirstDue (s : State) (c : Chamber) (l : LockageRecord) (d : Device) (k : Target) : Prop :=
  let order : List Device := [.gate c .upper, .sluice c .upper, .gate c .lower, .sluice c .lower]
  d ∈ order ∧ Due s c l d k ∧ ∀ x ∈ order, ∀ j, Due s c l x j → order.idxOf d ≤ order.idxOf x

/-- An opening phase has lost its level before the gate has begun to open, and returns to `back` (R51, R57). That a gate which awaits
DONE counts as opening only while its outstanding command is OPEN is log 58 (DESIGN CHOICE). -/
def ReturnDue (s : State) (c : Chamber) (l : LockageRecord) (e : End) (back : Phase) : Prop :=
  let r := s.dev (.gate c e)
  ((s.phase c = .entryOpening ∧ e = l.direction.entryEnd ∧ back = .preLevelling) ∨
      (s.phase c = .exitOpening ∧ e = l.direction.exitEnd ∧ back = .levelling)) ∧
    ¬levelWith s c e ∧ r.position ≠ .opening ∧ r.position ≠ .opened ∧ (∀ k, r.onLine ≠ some (.start k)) ∧
    ¬(r.awaitingDone = true ∧ r.outstanding = some (.move .toOpen))

/-- The governing head of an opening phase has lost both reds (R146). -/
def GovernedDark (s : State) (c : Chamber) (l : LockageRecord) : Prop :=
  let dark (h : Head) : Prop := (s.lamp h .red1).failed = true ∧ (s.lamp h .red2).failed = true
  (s.phase c = .entryOpening ∧ dark ⟨c, l.direction.entryEnd, .outer⟩) ∨
    (s.phase c = .exitOpening ∧ dark ⟨c, l.direction.exitEnd, .inner⟩)

/-- What a chamber in a working phase with a holder asks of its devices while its phase goes on (R44). An opening phase that has
lost its level withdraws its gate's START and returns (R51, R57). Otherwise the first command due is requested in AUTO (R6), the
start mark being set at LEVELLING's request to open while it is unset (R55, R56), unless the governing head is red-dark: then the
chamber enters HOLD with SIGNAL (R51, R57, R146). In STEP it becomes the step wait, with STEP_WAIT; a step wait whose command is no
longer due goes, and one whose device is due the other target changes (R61). Level reached becomes yes when the chamber becomes
equalized with the pound of its levelling phase, which stops the level timer and in LEVELLING sets the end mark (R50, R55, R56,
R59). An event ends when neither this nor the requests and the end of SAFING, nor any other reaction is due; the order of the
reactions and their bound are log 6 (DESIGN CHOICE), and that the drive arbiter examines its queue once, after all of them, not at
each change of R10's list, is log 7 (DEDUCED). That the onset sets the end mark alone is log 43, that the next command due is
recorded in the event that removes a step wait log 19 (DEDUCED); log 52 (DEDUCED) stands at Due, log 58 (DESIGN CHOICE) at
ReturnDue. -/
def Obligations.RequestsFallDue : Prop :=
  (∀ (s : State) (c : Chamber) (l : LockageRecord), (s.seq c).lockage = some l →
    let q := s.seq c
    let level := (s.levels.pairs.get (.chamber c)).last.map (·.value)
    let works : Prop := (s.phase c).working = true ∧ s.holder c ≠ none ∧ ∀ p, ¬LeadsTo s c l p
    let none' : Prop := ∀ d ∈ c.devices, ∀ k, ¬Due s c l d k
    let waits (x : Device × Target) : State :=
      { s with
        seqs := s.seqs.set c { q with stepWait := some x }
        event := { s.event with produced := s.event.produced ++ [.stepWait c x.1 x.2] } }
    (works → ∀ e back, ReturnDue s c l e back →
      ∃ u, s.workTest? c = some u ∧
        Enters
          { s with drive := { s.drive with
            devices := s.drive.devices.set (.gate c e) (stopMade (s.dev (.gate c e)) (s.drive.barred.get c) s.now) } }
          u c back) ∧
    (works → (∀ e back, ¬ReturnDue s c l e back) →
      (none' → (q.stepMode = .auto ∨ q.stepWait = none) → s.workTest? c = none) ∧
      (∀ d k, FirstDue s c l d k → q.stepMode = .auto →
        (GovernedDark s c l → s.workTest? c = some (s.holdOrder c .signal)) ∧
        (¬GovernedDark s c l →
          s.workTest? c = some
            { s with
              drive := { s.drive with devices := s.drive.devices.set d (startMade s s.now d k) }
              seqs :=
                if s.phase c = .levelling ∧ k = .toOpen ∧ l.startMark = none then
                  s.seqs.set c { q with lockage := some { l with startMark := level } }
                else s.seqs })) ∧
      (∀ d k, FirstDue s c l d k → q.stepMode = .step → q.stepWait = none → s.workTest? c = some (waits (d, k))) ∧
      ∀ d k, q.stepMode = .step → q.stepWait = some (d, k) →
        (Due s c l d k → s.workTest? c = none) ∧ (∀ j, j ≠ k → Due s c l d j → s.workTest? c = some (waits (d, j))) ∧
          ((∀ j, ¬Due s c l d j) → s.workTest? c = some { s with seqs := s.seqs.set c { q with stepWait := none } })) ∧
    let becomesLevel : Prop := q.levelReached = false ∧
      ((s.phase c = .preLevelling ∧ levelWith s c l.direction.entryEnd) ∨
        (s.phase c = .levelling ∧ levelWith s c l.direction.exitEnd))
    (¬becomesLevel → s.onsetStep? c = none) ∧
    (becomesLevel → s.onsetStep? c = some
      { s with
        seqs := s.seqs.set c
          { q with
            levelReached := true, levelTimer := none
            lockage := some (if s.phase c = .levelling ∧ level ≠ none then { l with endMark := level } else l) } })) ∧
  ∀ s : State,
    s.finish = s.settle.dispatch.lightHeads.finishQuiet ∧
    (∃ l : List State, l.length ≤ 256 ∧ (s :: l).IsChain (fun x y => x.react? = some y) ∧
      (s :: l).getLast? = some s.settle ∧ (l.length < 256 → s.settle.react? = none)) ∧
    (s.react? = none → s.event.reports = [] ∧ ∀ c, s.workTest? c = none ∧ s.onsetStep? c = none ∧ s.safingStep? c = none)

/-! ### Refusals and the link ports -/

/-- The time, the frame and the kind code of a request. -/
def requestOf : Instr → Option (Nat × Frame × Byte)
  | .claim dt f _ => some (dt, f, 1)
  | .release dt f _ => some (dt, f, 2)
  | .present dt f => some (dt, f, 3)
  | .seize dt f _ => some (dt, f, 4)
  | .startLockage dt f _ _ => some (dt, f, 5)
  | .addVessel dt f _ _ _ => some (dt, f, 6)
  | .closeEntry dt f _ _ => some (dt, f, 7)
  | .exitDone dt f _ => some (dt, f, 8)
  | .hold dt f _ => some (dt, f, 9)
  | .resume dt f _ => some (dt, f, 10)
  | .abandon dt f _ => some (dt, f, 11)
  | .acknowledgeFault dt f _ => some (dt, f, 12)
  | .acknowledgeFaultCross dt f => some (dt, f, 12)
  | .setMode dt f _ _ => some (dt, f, 13)
  | .advance dt f _ => some (dt, f, 14)
  | .setService dt f _ _ => some (dt, f, 15)
  | .setAdmission dt f _ _ => some (dt, f, 16)
  | .clearLockout dt f _ => some (dt, f, 17)
  | .lampCheck dt f => some (dt, f, 18)
  | .loadConfiguration dt f _ ⟨none, none⟩ => some (dt, f, 19)
  | .registerVessel dt f _ => some (dt, f, 20)
  | .amendVessel dt f _ _ _ => some (dt, f, 21)
  | .withdrawVessel dt f _ _ => some (dt, f, 22)
  | .setTime dt f _ _ _ => some (dt, f, 23)
  | .loadTariff dt f _ _ => some (dt, f, 25)
  | .blockAccount dt f _ => some (dt, f, 26)
  | .unblockAccount dt f _ => some (dt, f, 27)
  | .peekRecord dt f => some (dt, f, 28)
  | .takeRecord dt f _ => some (dt, f, 29)
  | .closePeriod dt f => some (dt, f, 30)
  | .readPeriodImage dt f _ => some (dt, f, 31)
  | .readStatus dt f _ => some (dt, f, 32)
  | .readVessel dt f _ _ => some (dt, f, 33)
  | .readQueue dt f _ _ => some (dt, f, 34)
  | .readTariff dt f _ => some (dt, f, 35)
  | .readAccount dt f _ => some (dt, f, 36)
  | _ => none

/-- A refused request is not executed and changes no state: its reply carries the result code alone (R185). A chamber command
that does not come from the chamber's holder is refused NOT_HOLDER (R186). A write of the configuration store whose
read-back differs is the one refusal after an action (R206) and stands in LoadConfigurationWritesStore. -/
def Obligations.RefusalsChangeNothing : Prop :=
  (∀ (c : Instr) (dt : Nat) (f : Frame) (code : Byte) (s t : State), requestOf c = some (dt, f, code) → Ready s f →
    exec c s = .next t → ∃ r, (t.port f.link).reply = some r ∧
      (r.result ≠ .ok → OnlyAnswered s dt f code r.result .none (exec c s))) ∧
  ∀ (dt : Nat) (f : Frame) (o : Operator) (c : Chamber) (s : State), Ready s f → f.link.operator? = some o →
    s.holder c ≠ some o →
    ∀ x, x ∈ [Instr.exitDone dt f (some c), .hold dt f (some c), .resume dt f (some c), .abandon dt f (some c),
        .acknowledgeFault dt f (some c), .advance dt f (some c)] ∨ (∃ d, x = .startLockage dt f (some c) d) ∨
        (∃ h m, x = .addVessel dt f (some c) h m) ∨ (∃ l, x = .closeEntry dt f (some c) l) ∨
        (∃ m, x = .setMode dt f (some c) m) ∨ (∃ v, x = .setService dt f (some c) v) ∨
        (∃ n, x = .setAdmission dt f (some c) n) →
      ∃ code, requestOf x = some (dt, f, code) ∧ OnlyAnswered s dt f code .notHolder .none (exec x s)

/-- The bytes of an attempt came each within 20 ms of the byte before it; the last one comes now, or more than 20 ms ago where the
attempt ends in a gap (R183). -/
def InTime (gap : Bool) (bytes : List ArrivedByte) : Prop :=
  bytes.IsChain (fun a b => b.age ≤ a.age ∧ a.age ≤ b.age + 20) ∧
    ∀ b, bytes.getLast? = some b → if gap then 20 < b.age else b.age = 0

/-- The events of a link port (R183, R184, R185): a code that is no request is refused UNKNOWN_COMMAND; a request that meets a full
reply slot is answered BUSY_LINK, or with both slots full only heard; a frame that is out frees its slot. An attempt that is
discarded, for its check or for a gap, is searched again behind its start byte; a valid frame that stands behind junk is heard at
the moment at which its last check byte came, and answered. What the receiver keeps, and what a gap discards with it, is the model's
choice (log 32), and so is the form in which a command names the bytes. A reply goes out as a frame that reads back as its code plus
128, for a code below 128 (log 18), its tag and its result, a notice as one that reads back as its kind code, its sequence number
and its subject. A free transmitter takes the reply, else the busy frame, else the oldest notice, which takes the present sequence
number; a notice that joins a queue removes one of its kind and subject and stands last. A number stands in its bytes most
significant first, a lock time in five bytes, as in CLOCK_SET and PERIOD_CLOSED (R182, R197); that the fields of a body stand in the
order in which its rule lists them, and the width of a number, are the model's (log 50). -/
def Obligations.LinkPortEvents : Prop :=
  (∀ (dt : Nat) (l : Link) (code tag : Byte) (s : State), s.isHeld = false →
    ((s.port l).reply = none → isRequestCode code = false →
      OnlyAnswered s dt ⟨l, tag, true⟩ code .unknownCommand .none (exec (.unknownCommand dt l code tag) s)) ∧
    ((s.port l).reply ≠ none → (s.port l).busy = none →
      ∃ t, exec (.busyLink dt l code tag) s = .next t ∧
        t = { s with now := s.now + dt, links := t.links, event := .blank } ∧
        ∀ k, t.port k =
          (if k = l then
            { s.port k with
              lastFrame := some (s.now + dt), receive := [], busy := some ⟨replyKind code, tag, .busyLink, .none⟩ }
          else s.port k).transmit) ∧
    ((s.port l).reply ≠ none → (s.port l).busy ≠ none →
      ∃ t, exec (.frameDiscardedSlotsFull dt l code tag) s = .next t ∧
        t = { s with now := s.now + dt, links := t.links, event := .blank } ∧
        ∀ k, t.port k =
          (if k = l then { s.port k with lastFrame := some (s.now + dt), receive := [] } else s.port k).transmit) ∧
    ∀ x, (s.port l).sending = some x → ¬(s.start.reconfigurePending = true ∧ l = .desk ∧ x = .reply) →
      ∃ t, exec (.frameSent dt l) s = .next t ∧
        t = { s with now := s.now + dt, links := t.links, event := .blank } ∧
        ∀ k, t.port k =
          (if k = l then
            { s.port k with
              sending := none
              reply := if x = .reply then none else (s.port k).reply
              busy := if x = .busy then none else (s.port k).busy }
          else s.port k).transmit) ∧
  (∀ (dt : Nat) (l : Link) (gap : Bool) (bytes : List ArrivedByte) (s : State), s.isHeld = false →
    let values := bytes.map (·.value)
    let found := searchAgain gap values
    let o := exec (if gap then .frameGapTimeout dt l bytes else .frameInvalid dt l bytes) s
    (readFrame values ≠ none ∨ ¬InTime gap bytes → o = .next { s with now := s.now + dt, event := .blank }) ∧
    (readFrame values = none → InTime gap bytes →
      (∃ t, o = .next t ∧
        t = (found.1.foldl (State.takeHeard l bytes) (s.beginEvent dt).finishQuiet).modPort l
          fun p => { p with receive := found.2 }) ∧
      (found.1 = [] → ∃ t, o = .next t ∧ t = { s with now := s.now + dt, links := t.links, event := .blank } ∧
        ∀ k, t.port k = if k = l then { (s.port k).transmit with receive := found.2 } else (s.port k).transmit) ∧
      (startByte ∉ values.tail → found = ([], [])) ∧
      ∀ (before after : List ArrivedByte) (last : ArrivedByte) (junk contents : List Byte) (kind tag : Byte),
        bytes = before ++ last :: after →
        (before ++ [last]).map (·.value) = startByte :: (junk ++ frameBytes kind tag contents) → startByte ∉ junk →
        startByte ∉ after.map (·.value) → contents.length ≤ 248 → (s.port l).reply = none →
        found = ([⟨kind, tag, contents, after.length⟩], []) ∧
        ∃ t r d, o = .next t ∧ (t.port l).lastFrame = some (s.now + dt - last.age) ∧ (t.port l).receive = [] ∧
          (t.port l).reply = some ⟨replyKind kind, tag, r, d⟩ ∧ (isRequestCode kind = false → r = .unknownCommand))) ∧
  (∀ code : Byte, code.toNat < 128 → (replyKind code).toNat = code.toNat + 128) ∧
  ∀ (p : LinkPort),
    (p.sending ≠ none → p.transmit = p) ∧
    (p.sending = none →
      (p.reply ≠ none → p.transmit = { p with sending := some .reply }) ∧
      (p.reply = none → p.busy ≠ none → p.transmit = { p with sending := some .busy }) ∧
      (p.reply = none → p.busy = none → p.queue = [] → p.transmit = p) ∧
      ∀ n rest, p.reply = none → p.busy = none → p.queue = n :: rest →
        p.transmit =
          { p with sending := some (.notice p.sequence n), queue := rest, sequence := p.transmit.sequence } ∧
        p.transmit.sequence.toNat = if p.sequence.toNat = 255 then 0 else p.sequence.toNat + 1) ∧
    p.join [] = p ∧
    (∀ n ns, p.join (n :: ns) =
      ({ p with queue := (p.queue.filter fun m => ¬(m.kind = n.kind ∧ m.subject = n.subject)) ++ [n] } : LinkPort).join ns) ∧
    (∀ r : ReplyFrame, p.sending = some .reply → p.reply = some r → (replyDataBytes r.data).length ≤ 247 →
      ∃ bytes, p.sendingBytes = some bytes ∧
        readFrame bytes = some (r.kind, r.tag, byte r.result.code :: replyDataBytes r.data)) ∧
    (∀ tag n, p.sending = some (.notice tag n) → (noticeDataBytes n.data).length ≤ 247 →
      ∃ bytes, p.sendingBytes = some bytes ∧
        readFrame bytes = some (byte n.kind.code, tag, byte n.subject.code :: noticeDataBytes n.data)) ∧
    (∀ width n, n < 256 ^ width →
      (beBytes width n).length = width ∧ (beBytes width n).foldl (fun x b => 256 * x + b.toNat) 0 = n) ∧
    (∀ t : LockTime, lockTimeBytes t = beBytes 2 t.day ++ beBytes 3 (t.second * 8 + t.weekday)) ∧
    (∀ (t before : LockTime) (wasSet : Bool), ∃ rest,
      noticeDataBytes (.clockSet t before wasSet) = lockTimeBytes t ++ lockTimeBytes before ++ rest) ∧
    ∀ (period next : Nat) (t : LockTime), ∃ width,
      noticeDataBytes (.periodClosed period next t) = beBytes width period ++ beBytes width next ++ lockTimeBytes t

/-! ### The drive line -/

/-- The device's transaction is on the line and its drive's answer, from address `a`, comes within 300 ms (R11). -/
def AnswerComes (s : State) (dt : Nat) (d : Device) (k : Task) (a : Nat) : Prop :=
  OneTransaction s ∧ s.isHeld = false ∧ (s.dev d).onLine = some k ∧ s.cfg.addresses.get d = a ∧
    ∃ sent, s.drive.sentAt = some sent ∧ s.now + dt ≤ sent + 300

/-- The device's transaction has been on the line for 300 ms (R11). -/
def AnswerMissing (s : State) (dt : Nat) (d : Device) (k : Task) : Prop :=
  OneTransaction s ∧ s.isHeld = false ∧ (s.dev d).onLine = some k ∧
    ∃ sent, s.drive.sentAt = some sent ∧ sent + 300 ≤ s.now + dt

/-- The frame of the state with the stance of one device replaced. -/
def withStance (s : State) (dt : Nat) (d : Device) (r : DeviceRecord) : State :=
  { s.frame with
    now := s.now + dt, drive := { s.frame.drive with devices := s.frame.drive.devices.set d r.stance } }

/-- A record that becomes FAULTED with a kind, unless it is FAULTED already (R3). -/
def faultedAs (r : DeviceRecord) (k : FaultKind) : DeviceRecord :=
  if r.position = .faulted then r else { r with position := .faulted, faultKind := some k }

/-- A record that is left at rest with its query flag set gets a STATUS entry (R8). -/
def queriedAgain (r : DeviceRecord) (now : Nat) : DeviceRecord :=
  if r.outstanding = none ∧ r.queued = none ∧ r.onLine = none ∧ r.awaitingDone = false ∧ r.queryFlag = true then
    { r with queued := some ⟨.status, now⟩ }
  else r

/-- The end of a transaction leaves the device the record `r`, every other device its own, and the line free. -/
def Leaves (s u : State) (d : Device) (r : DeviceRecord) : Prop :=
  u.dev d = r ∧ (∀ x, x ≠ d → u.dev x = s.dev x) ∧ u.drive.sentAt = none

/-- The end of a transaction with the effect `op` takes place: it leaves the record `r`, beyond which the reactions to it may only
make requests. -/
def EndsWith (s : State) (dt : Nat) (d : Device) (op : State → State) (r : DeviceRecord) (o : Machine.Outcome) : Prop :=
  TakesPlace s dt op (withStance s dt d r) o ∧ Leaves s (op (s.beginEvent dt)) d r

/-- An ACCEPT of a START makes the device OPENING or CLOSING with its reported end absent, awaiting DONE, and its travel deadline
running, with what was requested kept. Then an accepted CLOSE whose gate's sill beam is broken is stopped, while its command is
CLOSE, and gives the chamber the hold order SILL (R21); the visit's first accepted OPEN of the levelling phase's sluice starts the
level timer (R59), also where level has been reached since (log 17, DEDUCED); XV's OPEN starts the exchange, as GrantOpensExchange
states (R78); any other brings nothing more. A device that became FAULTED while its START was on the line stays FAULTED (log 12). A
REJECT makes it FAULTED with DRIVE_REFUSED and clears its outstanding command, its next start and a queued STOP. An ACCEPT of a STOP
sets awaiting DONE and starts a deadline unless one runs; another answer makes the device FAULTED with DRIVE_REFUSED, its
outstanding command cleared unless DONE is awaited (R12, R13). The line is free, and no other device changes. -/
def Obligations.StartAndStopAnswers : Prop :=
  ∀ (dt a : Nat) (d : Device) (s : State),
    let r := s.dev d
    (∀ k, AnswerComes s dt d (.start k) a →
      let accepted : DeviceRecord :=
        { r with
          onLine := none
          position := if r.position = .faulted then .faulted else match k with | .toOpen => .opening | .toClose => .closing
          reportedEnd := none
          awaitingDone := true
          travelDeadline := some (s.now + dt + s.travelLimit d) }
      TakesPlace s dt (fun u => (u.freeLine.startAccepted d k).afterAccept d k) (withStance s dt d accepted)
        (exec (.startAnswer dt a true) s) ∧
      Leaves s ((s.beginEvent dt).freeLine.startAccepted d k) d accepted ∧
      (let u := (s.beginEvent dt).freeLine.startAccepted d k
       let stopped : Prop := r.outstanding = some (.move .toClose)
       (∀ c e, d = .gate c e → k = .toClose →
        let caught : Prop := (s.drive.beams.get c).get e ≠ .active ∧ r.position ≠ .faulted
        (¬caught → u.afterAccept d k = u) ∧
        (caught → ∃ v : State, u.afterAccept d k = v.holdOrder c .sill ∧
          v = { u with drive := { u.drive with devices := u.drive.devices.set d (v.dev d) } } ∧
          v.dev d = if stopped then stopMade accepted (s.drive.barred.get c) (s.now + dt) else accepted)) ∧
       (∀ c e, d = .sluice c e → k = .toOpen →
        let first : Prop := (s.seq c).timerDue = true ∧ ∃ l, (s.seq c).lockage = some l ∧
          ((s.phase c = .preLevelling ∧ e = l.direction.entryEnd) ∨ (s.phase c = .levelling ∧ e = l.direction.exitEnd))
        (¬first → u.afterAccept d k = u) ∧
        (first → u.afterAccept d k =
          { u with
            seqs := s.seqs.set c
              { s.seq c with
                timerDue := false
                levelTimer := some (s.now + dt + (s.cfg.chambers.get c).levellingLimit * 1000) } })) ∧
       (d = .xv → k = .toOpen → u.afterAccept d k = u.valveOpens) ∧
       ((∀ c e, (d, k) ≠ (.gate c e, .toClose) ∧ (d, k) ≠ (.sluice c e, .toOpen)) → (d, k) ≠ (.xv, .toOpen) →
        u.afterAccept d k = u)) ∧
      EndsWith s dt d (fun u => u.freeLine.startRejected d)
        (queriedAgain
          { faultedAs r .driveRefused with
            onLine := none
            outstanding := none
            nextStart := none
            queued := if r.queued.map (·.task) = some .stop then none else r.queued } (s.now + dt))
        (exec (.startAnswer dt a false) s)) ∧
    (AnswerComes s dt d .stop a →
      EndsWith s dt d (fun u => u.freeLine.stopAccepted d)
        { r with
          onLine := none
          awaitingDone := true
          travelDeadline := r.travelDeadline.or (some (s.now + dt + s.travelLimit d)) }
        (exec (.stopAnswer dt a true) s) ∧
      EndsWith s dt d (fun u => u.freeLine.stopFailed d .driveRefused)
        (queriedAgain
          { faultedAs r .driveRefused with
            onLine := none
            outstanding := if r.awaitingDone then r.outstanding else none } (s.now + dt))
        (exec (.stopAnswer dt a false) s))

/-- What R15 makes of position and fault kind: `target` is the outstanding OPEN or CLOSE of a record without a query; `kept` is a
CROSS_CONFLICT of XV that waits for the desk's acknowledgement (R101). -/
def readBy (r : DeviceRecord) (kept : Bool) (e : EndPosition) (flagged limitActive : Bool) : Position × Option FaultKind :=
  let target := match r.outstanding with
    | some (.move t) => if r.queryFlag then none else some t
    | _ => none
  if r.position = .faulted ∧ (r.queryFlag = false ∨ kept = true) then (.faulted, r.faultKind)
  else if flagged then (.faulted, some .driveReported)
  else
    match target with
    | some .toOpen => if e = .opened then (.opened, none) else (.faulted, some .positionMismatch)
    | some .toClose =>
      if e = .closed ∧ limitActive then (.closed, none) else (.faulted, some .positionMismatch)
    | none =>
      match e with
      | .intermediate => (.stopped, none)
      | .opened => (.opened, none)
      | .closed => if limitActive then (.closed, none) else (.faulted, some .positionMismatch)

/-- A STATUS reply sets position and fault kind as R15 reads it, the reported end, and the last-closed time of a device that
becomes confirmed CLOSED (R2); the line is free, the outstanding command becomes none, the query flag is cleared, and a query's reply
also clears awaiting DONE and the travel deadline. The next start is cleared and taken as a START request (R6), or discarded when the
position is FAULTED (R15). A device that becomes FAULTED is reported (R3). No other device changes. That a queried device which is
FAULTED already takes the found kind and raises no report is log 13 (DEDUCED); that the census leaves XV FAULTED by a
CROSS_CONFLICT as it is until the desk acknowledges it is R101, and goes before R15 by log 61 (DESIGN CHOICE). -/
def Obligations.StatusReplySetsPosition : Prop :=
  ∀ (dt a : Nat) (d : Device) (e : EndPosition) (overload disagreement : Bool) (s : State), AnswerComes s dt d .status a →
    let r := s.dev d
    let limitActive := decide (s.drive.limits.get d = .active)
    let closed := decide (e = .closed) && limitActive
    let kept := decide (d = .xv) && s.drive.conflictKept
    let read := readBy r kept e (overload || disagreement) limitActive
    let applied : DeviceRecord :=
      { r with
        position := read.1
        faultKind := read.2
        reportedEnd := some e
        lastClosed := if closed = true ∧ s.confirmedClosed d = false then some (s.now + dt) else r.lastClosed
        onLine := none
        outstanding := none
        queryFlag := false
        awaitingDone := r.awaitingDone && !r.queryFlag
        travelDeadline := if r.queryFlag then none else r.travelDeadline
        nextStart := none }
    EndsWith s dt d (fun u => u.answered d .status (.status e overload disagreement))
      (match r.nextStart with
      | none => applied
      | some k =>
        if applied.position = .faulted then applied
        else
          startTaken applied (s.isBarred d) (match k with | .toOpen => decide (applied.position = .opened) | .toClose => closed)
            (s.now + dt) k)
      (exec (.statusReply dt a e overload disagreement) s) ∧
    ((s.beginEvent dt).freeLine.statusApplied d e overload disagreement).event.reports =
      if r.position = .faulted then [] else (read.2.map fun k => Report.device d k s.lockTime).toList

/-- After 300 ms without a valid answer a transaction ends with the device FAULTED with NO_RESPONSE, its reported end absent unless
it was a STOP; a STOP queued behind a START stays queued, and the outstanding command is then STOP (R11, R12, R13, R15). A frame
that is no valid answer changes nothing: one whose envelope or check is bad, one whose tag is not the addressed drive's address, one
whose kind or contents are not those that the transaction expects, and any frame while no transaction is on the line (R11). That the
next start of an unanswered START is kept, and that a missing answer which leaves the device at rest with its query flag set brings
a STATUS entry, is log 38 (DEDUCED); that a queried device which is FAULTED already takes the kind NO_RESPONSE is log 13 (DEDUCED,
with R95), that XV keeps a CROSS_CONFLICT which the desk has not acknowledged log 61 (DESIGN CHOICE, with R101). -/
def Obligations.NoAnswerFaults : Prop :=
  (∀ (dt : Nat) (d : Device) (s : State),
    let r := s.dev d
    (∀ k, AnswerMissing s dt d (.start k) →
      EndsWith s dt d (fun u => u.unanswered d (.start k))
        (queriedAgain
          { faultedAs r .noResponse with
            onLine := none
            reportedEnd := none
            outstanding := if r.queued.map (·.task) = some .stop then some .stop else none } (s.now + dt))
        (exec (.driveAnswerTimeout dt) s)) ∧
    (AnswerMissing s dt d .stop →
      EndsWith s dt d (fun u => u.unanswered d .stop)
        (queriedAgain
          { faultedAs r .noResponse with
            onLine := none
            outstanding := if r.awaitingDone then r.outstanding else none } (s.now + dt))
        (exec (.driveAnswerTimeout dt) s)) ∧
    (AnswerMissing s dt d .status →
      EndsWith s dt d (fun u => u.unanswered d .status)
        { r with
          position := .faulted
          faultKind :=
            if r.position = .faulted ∧ (r.queryFlag = false ∨ (d = .xv ∧ s.drive.conflictKept = true)) then r.faultKind
            else some .noResponse
          onLine := none
          reportedEnd := none
          queryFlag := false
          nextStart := none
          outstanding := if r.awaitingDone then r.outstanding else none }
        (exec (.driveAnswerTimeout dt) s))) ∧
  ∀ (dt : Nat) (bytes : List Byte) (s : State), s.isHeld = false →
    (s.answerIn? bytes = none →
      exec (.driveFrameDiscarded dt bytes) s = .next { s with now := s.now + dt, event := .blank }) ∧
    (readFrame bytes = none → s.answerIn? bytes = none) ∧
    ((∀ d, (s.dev d).onLine = none) → s.answerIn? bytes = none) ∧
    ∀ (d : Device) (k : Task) (kind tag : Byte) (contents : List Byte), OneTransaction s → (s.dev d).onLine = some k →
      readFrame bytes = some (kind, tag, contents) →
      let expected : Prop :=
        match k with
        | .start _ => kind.toNat = 129 ∧ (contents = [0] ∨ contents = [1])
        | .stop => kind.toNat = 130 ∧ (contents = [0] ∨ contents = [1])
        | .status => kind.toNat = 131 ∧ ∃ e flags : Byte, contents = [e, flags] ∧ 1 ≤ e.toNat ∧ e.toNat ≤ 3 ∧ flags.toNat < 4
      (s.answerIn? bytes = none ↔ tag ≠ byte (s.cfg.addresses.get d) ∨ ¬expected)

/-- A sample of the inputs falls at the moment, and three have fallen since the start and after the moment at which the filtered state
of an input last changed: three that agree may change it now (R4; the moments of the samples are logs 9 and 59). -/
def ThirdSample (s : State) (moment turned : Nat) : Prop :=
  ∃ k, 1 ≤ k ∧ turned < s.samplesFrom + 20 * k ∧ s.samplesFrom + 20 * (k + 2) = moment

/-- DONE ends the wait for it: awaiting DONE and the travel deadline clear, and a STATUS entry stands in the queue in place of a
STOP; at any other time it only changes the filtered input, as any other change of that input does (R4, R14). The input changes with
the third of three samples that agree, and a command at any other moment only lets the time pass (R4; logs 5 and 9). -/
def Obligations.DoneEndsMovement : Prop :=
  ∀ (dt : Nat) (d : Device) (s : State), s.isHeld = false →
    let r := s.dev d
    let moments : InputMoments := { s.drive.turned with dones := s.drive.turned.dones.set d (s.now + dt) }
    let rests (o : Machine.Outcome) : Prop := o = .next { s with now := s.now + dt, event := .blank }
    let only (x : Filtered) (o : Machine.Outcome) : Prop :=
      ∃ t, o = .next t ∧ LinksQuiet s t ∧
        t = { s with
              now := s.now + dt
              drive := { s.drive with dones := s.drive.dones.set d x, turned := moments }
              links := t.links
              event := .blank }
    (¬ThirdSample s (s.now + dt) (s.drive.turned.dones.get d) →
      rests (exec (.doneEvent dt d) s) ∧ ∀ b, rests (exec (.doneInputChange dt d b) s)) ∧
    (ThirdSample s (s.now + dt) (s.drive.turned.dones.get d) →
    (s.drive.dones.get d = .inactive → r.awaitingDone = true → r.onLine = none →
      let u := ((s.beginEvent dt).setDone d .active).doneTaken d
      (∃ t, exec (.doneEvent dt d) s = .next t ∧ t = u.finish ∧ LinksServed s t ∧
        t.frame =
          let w := withStance s dt d { r with awaitingDone := false, travelDeadline := none }
          { w with drive := { w.drive with dones := w.drive.dones.set d .active, turned := moments } }) ∧
      (u.dev d).queued.map (·.task) = some .status ∧ (u.dev d).outstanding = r.outstanding) ∧
    (s.drive.dones.get d = .inactive → (r.awaitingDone = false ∨ r.onLine ≠ none) → only .active (exec (.doneEvent dt d) s)) ∧
    (s.drive.dones.get d ≠ .inactive → only .inactive (exec (.doneInputChange dt d false) s)) ∧
    (s.drive.dones.get d = .unknown → only .active (exec (.doneInputChange dt d true) s)))

/-- A travel deadline that expires clears and makes the device FAULTED with TRAVEL_TIMEOUT unless it is FAULTED already; a
movement that awaits DONE is sent a STOP, on a free line in the expiry's own event (log 60, DESIGN CHOICE). A dead time that runs
out for a queued START OPEN makes the arbiter examine its queue, and nothing else changes (R16, R20). -/
def Obligations.DeadlinesExpire : Prop :=
  ∀ (dt : Nat) (s : State), s.isHeld = false →
    (∀ d x, (s.dev d).travelDeadline = some x → x ≤ s.now + dt →
      let r := s.dev d
      let u := (s.beginEvent dt).travelExpired d
      (∃ t, exec (.travelDeadlineExpiry dt d) s = .next t ∧ t = u.finish ∧ LinksServed s t ∧
        t.frame = withStance s dt d { faultedAs r .travelTimeout with travelDeadline := none }) ∧
      (r.position ≠ .faulted → s.isBarred d = false → r.movementOutstanding = true → r.awaitingDone = true →
        r.queued = none → (u.dev d).queued = some ⟨.stop, s.now + dt⟩ ∧ (u.dev d).outstanding = some .stop) ∧
      (r.position ≠ .faulted → r.movementOutstanding = false → (u.dev d).queued = r.queued)) ∧
    ∀ c e, (s.dev (.sluice c e)).queuedStart .toOpen = true →
      (∀ x, s.deadTimeEnd? c e = some x → x ≤ s.now + dt) →
      ∃ t, exec (.deadTimeExpiry dt c e) s = .next t ∧ LinksQuiet s t ∧
        t = { s with now := s.now + dt, drive := t.drive, links := t.links, event := .blank } ∧
        t.drive = (s.beginEvent dt).dispatch.drive

/-- The arbiter's choice (R10): nothing is chosen only while every entry is a START that is not eligible; an entry is chosen only
while no entry of a stronger kind waits, STOP before STATUS before an eligible START, and it is the oldest of its kind, of equal times
the first device in the order of R10. Examining its queue with the line free, under a VALID configuration and while the part is not
held, the arbiter puts the chosen entry on the line and takes it out of the queue; otherwise it changes nothing (R10, R26). -/
def Obligations.TransactionChoice : Prop :=
  ∀ s : State,
    (∀ d, s.eligible d = true ↔
      ∃ k n, (s.dev d).queued = some ⟨.start k, n⟩ ∧ s.isBarred d = false ∧ s.startAllowed d k = true) ∧
    (s.nextOnLine = none ↔ ∀ d q, (s.dev d).queued = some q → (∃ k, q.task = .start k) ∧ s.eligible d = false) ∧
    (∀ d, s.nextOnLine = some d →
      ∃ q, (s.dev d).queued = some q ∧
        (q.task ≠ .stop → ∀ x y, (s.dev x).queued = some y → y.task ≠ .stop) ∧
        ((∃ k, q.task = .start k) → s.eligible d = true ∧ ∀ x y, (s.dev x).queued = some y → y.task ≠ .status) ∧
        ∀ x y, (s.dev x).queued = some y →
          ((y.task = q.task ∧ ∀ k, q.task ≠ .start k) ∨ ((∃ k, q.task = .start k) ∧ s.eligible x = true)) →
          q.stamp < y.stamp ∨ (q.stamp = y.stamp ∧ Device.all.idxOf d ≤ Device.all.idxOf x)) ∧
    let free := s.configValid = true ∧ s.isHeld = false ∧ s.drive.sentAt = none
    (∀ d q, free → s.nextOnLine = some d → (s.dev d).queued = some q →
      s.dispatch = { s with drive := { s.drive with
        devices := s.drive.devices.set d { s.dev d with queued := none, onLine := some q.task }, sentAt := some s.now } }) ∧
    (¬free ∨ s.nextOnLine = none → s.dispatch = s)

/-! ### Inputs and trips -/

/-- A closed-limit input that takes a new value is written; a device that becomes confirmed CLOSED is stamped, and a release at
position CLOSED with no outstanding command makes the device FAULTED with UNCOMMANDED_MOVE (R2, R4, R22). A sill beam that breaks or
clears is written; a break while the gate closes and awaits DONE stops a gate that is to close and gives the chamber the hold order
SILL (R4, R21). Where the change of a limit makes the condition of a trip begin or end, the samples from that moment on find it so,
but none before the trip is armed; the condition of every other trip has held or failed as long as before (R23, R24; the moments of
the samples are log 59). An input takes its value with the third of three samples that agree, and a command at any other moment only
lets the time pass (R4; logs 5 and 9). -/
def Obligations.InputsChange : Prop :=
  ∀ (dt : Nat) (s : State), s.isHeld = false →
    let moment := s.now + dt
    let rests (o : Machine.Outcome) : Prop := o = .next { s with now := moment, event := .blank }
    (∀ d : Device,
      let r := s.dev d
      let moments : InputMoments := { s.drive.turned with limits := s.drive.turned.limits.set d moment }
      let stands (v : Filtered) (x : DeviceRecord) (o : Machine.Outcome) : Prop :=
        ∃ t, o = .next t ∧ LinksServed s t ∧
          (t.frame =
            let w := withStance s dt d x
            { w with drive :=
              { w.drive with
                limits := w.drive.limits.set d v, turned := moments
                limitTrips := t.drive.limitTrips, crossTrip := t.drive.crossTrip } }) ∧
          let follows (before after : Trip) (was is : Bool) : Prop :=
            after = if was = is then before else { before with since := max before.since (s.now + dt) }
          (∀ c, follows (s.drive.limitTrips.get c) (t.drive.limitTrips.get c) (s.limitConflict c) (t.limitConflict c)) ∧
            follows s.drive.crossTrip t.drive.crossTrip s.crossConflict t.crossConflict
      (¬ThirdSample s moment (s.drive.turned.limits.get d) → ∀ b, rests (exec (.limitInputChange dt d b) s)) ∧
      (ThirdSample s moment (s.drive.turned.limits.get d) → s.drive.limits.get d ≠ .active →
        stands .active { r with lastClosed := if r.reportedEnd = some .closed then some (s.now + dt) else r.lastClosed }
          (exec (.limitInputChange dt d true) s)) ∧
      (ThirdSample s moment (s.drive.turned.limits.get d) → s.drive.limits.get d ≠ .inactive →
        stands .inactive (if r.position = .closed ∧ r.outstanding = none then faultedAs r .uncommandedMove else r)
          (exec (.limitInputChange dt d false) s))) ∧
    ∀ (c : Chamber) (e : End),
      let beams (v : Filtered) : PerChamber (PerEnd Filtered) := s.drive.beams.set c ((s.drive.beams.get c).set e v)
      let last := (s.drive.turned.beams.get c).get e
      let moments : InputMoments :=
        { s.drive.turned with beams := s.drive.turned.beams.set c ((s.drive.turned.beams.get c).set e moment) }
      let fr (v : Filtered) : State :=
        { s.frame with now := moment, drive := { s.frame.drive with beams := beams v, turned := moments } }
      let written (v : Filtered) (u : State) : State := { u with drive := { u.drive with beams := beams v, turned := moments } }
      let g := s.dev (.gate c e)
      (¬ThirdSample s moment last → rests (exec (.sillBeamBreak dt c e) s) ∧ rests (exec (.sillBeamClear dt c e) s)) ∧
      (ThirdSample s moment last →
      ((s.drive.beams.get c).get e ≠ .inactive → ¬(g.position = .closing ∧ g.awaitingDone = true) →
        TakesPlace s dt (written .inactive) (fr .inactive) (exec (.sillBeamBreak dt c e) s)) ∧
      ((s.drive.beams.get c).get e ≠ .inactive → g.position = .closing → g.awaitingDone = true →
        TakesPlace s dt
          (fun u =>
            let v := written .inactive u
            (if g.outstanding = some (.move .toClose) then v.stopRequest (.gate c e) else v).holdOrder c .sill)
          (fr .inactive) (exec (.sillBeamBreak dt c e) s)) ∧
      ((s.drive.beams.get c).get e ≠ .active →
        TakesPlace s dt (written .active) (fr .active) (exec (.sillBeamClear dt c e) s)))

/-- The trips fire once for each onset, while armed and enabled, when their condition has held on three consecutive 20 ms samples:
the chamber's LIMIT_CONFLICT is reported to it; CROSS_CONFLICT is reported to both sequencers and makes XV FAULTED unless it is
FAULTED already; an XV that it makes so waits for the desk's acknowledgement (R101; log 61). A trip that has fired does nothing more
while its condition holds. Each re-arms when its condition has failed on three consecutive samples, and the cross trip's re-arming
clears both cross conflict taken flags (R23, R24, R89). The moments of the samples, and that a command which comes before the third
only lets the time pass, are log 59. The cross trip's report is taken by both chambers while both are parties, by each once for the
onset (R88, R89); that the parties are tested once for both is log 29. -/
def Obligations.TripsFireAndRearm : Prop :=
  (∀ (dt : Nat) (s : State), s.isHeld = false →
    let rests (o : Machine.Outcome) : Prop := o = .next { s with now := s.now + dt, event := .blank }
    let onThreeSamples (t : Trip) : Prop :=
      ∃ k, 1 ≤ k ∧ t.since ≤ s.samplesFrom + 20 * k ∧ s.samplesFrom + 20 * (k + 2) ≤ s.now + dt
    (∀ c,
      let trip := s.drive.limitTrips.get c
      let with' (b : Bool) : DriveController :=
        { s.drive with limitTrips := s.drive.limitTrips.set c { trip with armed := b } }
      let fires : Prop := trip.enabled = true ∧ trip.armed = true ∧ s.limitConflict c = true ∧ onThreeSamples trip
      let rearms : Prop := trip.enabled = true ∧ trip.armed = false ∧ s.limitConflict c = false ∧ onThreeSamples trip
      (s.limitConflict c = true ↔
        ∀ e, s.drive.limits.get (.gate c e) = .inactive ∨ s.drive.limits.get (.sluice c e) = .inactive) ∧
      (fires →
        TakesPlace s dt
          (fun u => ({ u with drive := with' false } : State).report (.chamber c ⟨.limitConflict, none, s.lockTime⟩))
          { s.frame with
            now := s.now + dt, drive := { s.frame.drive with limitTrips := (with' false).limitTrips } }
          (exec (.limitConflict dt c) s)) ∧
      (¬fires → rests (exec (.limitConflict dt c) s)) ∧
      (rearms →
        ∃ t, exec (.limitConflictRearm dt c) s = .next t ∧ LinksQuiet s t ∧
          t = { s with now := s.now + dt, drive := with' true, links := t.links, event := .blank }) ∧
      (¬rearms → rests (exec (.limitConflictRearm dt c) s))) ∧
    (s.crossConflict = true ↔ s.drive.limits.get .xv = .inactive ∧
      ∃ c e, s.drive.limits.get (.gate c e) = .inactive ∨ s.drive.limits.get (.sluice c e) = .inactive) ∧
    let trip := s.drive.crossTrip
    let fires : Prop := trip.enabled = true ∧ trip.armed = true ∧ s.crossConflict = true ∧ onThreeSamples trip
    let rearms : Prop := trip.enabled = true ∧ trip.armed = false ∧ s.crossConflict = false ∧ onThreeSamples trip
    let kept := s.drive.conflictKept || decide ((s.dev .xv).position ≠ .faulted)
    (fires →
      TakesPlace s dt
        (fun u =>
          (({ u with drive := { u.drive with crossTrip := { trip with armed := false }, conflictKept := kept } } : State).report
            (.crossTrip s.lockTime)).faultDevice .xv .crossConflict)
        (let w := withStance s dt .xv (faultedAs (s.dev .xv) .crossConflict)
         { w with drive := { w.drive with crossTrip := { trip with armed := false }, conflictKept := kept } })
        (exec (.crossConflict dt) s)) ∧
    (¬fires → rests (exec (.crossConflict dt) s)) ∧
    (rearms →
      ∃ t, exec (.crossConflictRearm dt) s = .next t ∧ LinksQuiet s t ∧
        t = { s with
              now := s.now + dt
              drive := { s.drive with crossTrip := { trip with armed := true } }
              seqs := s.seqs.map fun q => { q with crossConflictTaken := false }
              links := t.links
              event := .blank }) ∧
    (¬rearms → rests (exec (.crossConflictRearm dt) s))) ∧
  ∀ (s : State) (x : LockTime),
    let party (c : Chamber) : Prop := s.phase c = .crossing ∨ s.granted c = true
    let t := s.takeReport (.crossTrip x)
    (¬(party .A ∧ party .B) → t = s) ∧
    (party .A → party .B → ∀ c,
      let taken := (s.takeFault c ⟨.crossConflict, some .xv, x⟩).seq c
      (t.seq c).crossConflictTaken = true ∧
        (t.seq c).faults = (if (s.seq c).crossConflictTaken then (s.seq c).faults else taken.faults) ∧
        t.phase c = if (s.seq c).crossConflictTaken then s.phase c else taken.phase)

/-! ### Water levels -/

/-- `n` is the quotient `p / q` rounded to the nearest whole number, an exact half to the greater one (R30). -/
def roundsTo (p : Int) (q : Nat) (n : Int) : Prop := (2 * n - 1) * q ≤ 2 * p ∧ 2 * p < (2 * n + 1) * q

/-- A channel record after a counted reading (R29, R30). -/
def readsAs (k : ChannelConfig) (i : Nat) (r : ChannelRecord) : Prop :=
  r.current = some i ∧ (i < 3800 → r.reading = .lost .low) ∧ (20500 < i → r.reading = .lost .high) ∧
    (3800 ≤ i → i ≤ 20500 → ∃ n : Int, roundsTo (((i : Int) - 4000) * k.span) 16000 n ∧
      r.reading = .valid (max (-20000) (min 20000 (k.zero + n))))

/-- A pair's value and quality from its two channels (R31). -/
def pairsAs (tolerance : Nat) (x y : Reading) (p : PairState) : Prop :=
  match x, y with
  | .valid a, .valid b =>
    if (a - b).natAbs ≤ tolerance then ∃ n : Int, roundsTo (a + b) 2 n ∧ p = .good n else p = .disagree
  | .valid a, .lost _ => p = .single a
  | .lost _, .valid b => p = .single b
  | .lost _, .lost _ => p = .invalid

/-- A scan brings channels, pairs and counters up to date as one event: an answer with the ready value whose check agrees with the
one formed over it (R27, R28, R182; the bytes it is formed over are log 23) judges each channel on its own reading, one that does
not count makes all eight LOST (R27 to R34); a changed quality is notified (R33). A scan instant begins an exchange and the next
follows 250 ms on (R27). -/
def Obligations.ScanBringsImageUpToDate : Prop :=
  ∀ (dt : Nat) (s : State), s.isHeld = false →
    (∀ n, s.levels.nextScan = some n → n ≤ s.now + dt → s.levels.exchanging = false →
      ∃ t, exec (.scanStart dt) s = .next t ∧ LinksQuiet s t ∧
        t = { s with
              now := s.now + dt
              levels := { s.levels with exchanging := true, nextScan := some (n + 250) }
              links := t.links
              event := .blank }) ∧
    ∀ (a : ConverterAnswer) (b : ConfigBlock), s.start.image = some b → s.levels.exchanging = true →
      let read (p : Place) : List Byte := be16 (a.readings.get p).one ++ be16 (a.readings.get p).two
      let received := a.ready ::
        (read (.chamber .A) ++ read (.chamber .B) ++ read (.pound .upper) ++ read (.pound .lower))
      let u := (s.beginEvent dt).applyScan a
      TakesPlace s dt (fun u => (u.applyScan a).watchHead) { s.frame with now := s.now + dt, levels := u.levels }
        (exec (.scanCompletion dt a) s) ∧
      u.levels.exchanging = false ∧ u.levels.nextScan = s.levels.nextScan ∧ u.levels.firstScan = s.levels.firstScan ∧
      u.levels.lastScan = some (s.now + dt) ∧
      (∀ p i, if a.ready = Config.converterReady ∧ a.check = check16 received
        then readsAs ((b.channels.get p).get i) ((a.readings.get p).get i) ((u.levels.channels.get p).get i)
        else (u.levels.channels.get p).get i = ⟨((s.levels.channels.get p).get i).current, .lost .noAnswer⟩) ∧
      (∀ p, pairsAs b.agreementTolerance ((u.levels.channels.get p).get .one).reading
          ((u.levels.channels.get p).get .two).reading (u.levels.pairs.get p).state ∧
        (u.levels.pairs.get p).last =
          match (u.levels.pairs.get p).state.value? with
          | some v => some ⟨v, s.now + dt⟩
          | none => (s.levels.pairs.get p).last) ∧
      (∀ c e, (u.levels.counters.get c).get e =
        match (u.levels.pairs.get (.chamber c)).state.value?, (u.levels.pairs.get (.pound e)).state.value? with
        | some x, some y =>
          if (x - y).natAbs ≤ b.equalizeWindow then min 3 ((s.levels.counters.get c).get e + 1) else 0
        | _, _ => 0) ∧
      u.event.produced =
        ((Chamber.all.filter fun c => qualityChanged s.levels u.levels (.chamber c)).map fun c =>
            Produced.levelQuality (.chamber c)) ++
          if qualityChanged s.levels u.levels (.pound .upper) || qualityChanged s.levels u.levels (.pound .lower)
          then [.levelQuality .lock] else []

/-- The depth over a sill and the sill test (R36, R37). -/
def Obligations.SillTestOutcomes : Prop :=
  ∀ (s : State) (c : Chamber) (draught : Nat),
    (∀ e, s.depth? c e =
      (s.levels.pairs.get (.pound e)).last.map fun l =>
        l.value - match e with
          | .upper => (s.cfg.chambers.get c).upperSill
          | .lower => (s.cfg.chambers.get c).lowerSill) ∧
    (((s.levels.pairs.get (.pound .upper)).last = none ∨ (s.levels.pairs.get (.pound .lower)).last = none) →
      s.sillTest c draught = some .level) ∧
    ∀ x y, s.depth? c .upper = some x → s.depth? c .lower = some y →
      let required : Int := (draught : Int) * 10 + s.cfg.keelClearance
      ((x < required ∨ y < required) → s.sillTest c draught = some .sill) ∧
      ((required ≤ x ∧ required ≤ y) → s.sillTest c draught = none)

/-- A level timer that expires stops and raises LEVEL_TIMEOUT (R59). A pair that a phase watches and whose lost age has reached
the level-lost limit raises LEVEL_LOST, once in a visit (R60). -/
def Obligations.LevelTimersExpire : Prop :=
  ∀ (dt : Nat) (c : Chamber) (s : State), s.isHeld = false →
    (∀ x, (s.seq c).levelTimer = some x → x ≤ s.now + dt →
      TakesPlace s dt
        (fun u => (u.modSeq c fun q => { q with levelTimer := none }).report
          (.chamber c ⟨.levelTimeout, none, s.lockTime⟩))
        { s.frame with now := s.now + dt } (exec (.levelTimeout dt c) s)) ∧
    ∀ (l : LockageRecord) (e : End), (s.seq c).lockage = some l → (s.seq c).levelLostRaised = false →
      ((s.phase c = .preLevelling ∧ (s.seq c).levelReached = false ∧ e = l.direction.entryEnd) ∨
        (s.phase c = .levelling ∧ (s.seq c).levelReached = false ∧ e = l.direction.exitEnd) ∨
        (s.phase c = .crossing ∧ e = l.direction.exitEnd)) →
      (∃ p n, (p = Place.chamber c ∨ p = .pound e) ∧ ({ s with now := s.now + dt } : State).lostAge? p = some n ∧
        s.cfg.levelLostLimit * 1000 ≤ n) →
      TakesPlace s dt
        (fun u => (u.modSeq c fun q => { q with levelLostRaised := true }).report
          (.chamber c ⟨.levelLost, none, s.lockTime⟩))
        { s.frame with now := s.now + dt } (exec (.levelLost dt c) s)

/-! ### Cross-filling -/

/-- A grant is due exactly under the conditions of R76. It records the chambers and their serials, writes the start marks, and
asks XV to open; no phase changes (R77). XV's answer that accepts that START OPEN makes the exchange FLOWING, stops the wait timers
and starts the exchange timer and both level timers (R78, R59). -/
def Obligations.GrantOpensExchange : Prop :=
  (∀ (dt a : Nat) (s : State), AnswerComes s dt .xv (.start .toOpen) a → s.cross.stage = .opening →
    (s.dev .xv).position ≠ .faulted →
    let u := (s.beginEvent dt).freeLine.startAccepted .xv .toOpen
    TakesPlace s dt (fun u => (u.freeLine.startAccepted .xv .toOpen).valveOpens) (withStance s dt .xv (u.dev .xv))
      (exec (.startAnswer dt a true) s) ∧
    (u.dev .xv).position = .opening ∧ u.cross = s.cross ∧ u.seqs = s.seqs ∧ u.now = s.now + dt) ∧
  ∀ (s : State) (d : Chamber),
    (s.grantDue? = some d ↔
      s.cross.stage = .none ∧ (s.cross.claims.get d).map (·.need) = some .drain ∧
        (s.cross.claims.get d.other).map (·.need) = some .fill ∧ (s.dev .xv).atRest = true ∧
        (s.dev .xv).position ≠ .faulted ∧ s.confirmedClosed .xv = true ∧
        ∃ x y, s.level? (.chamber d) = some x ∧ s.level? (.chamber d.other) = some y ∧
          (s.cfg.crossMinimumHead : Int) ≤ x - y) ∧
    (s.grantDue? = some d → (s.dev .xv).position ≠ .opened →
      let t := s.makeGrant d
      (t.cross.grant.map fun g => (g.drain, g.fill)) = some (d, d.other) ∧
        (∀ c l, (s.seq c).lockage = some l → (t.cross.grant.map fun g => g.serials.get c) = some l.serial) ∧
        t.cross.stage = .opening ∧ t.cross.valveAccepted = false ∧ t.cross.stopCounter = 0 ∧
        t.cross.claims = s.cross.claims ∧
        (∀ c, t.phase c = s.phase c ∧
          (t.seq c).lockage = (s.seq c).lockage.map fun l => { l with crossStart := s.crossMarks }) ∧
        (t.dev .xv).queued = some ⟨.start .toOpen, s.now⟩ ∧ (t.dev .xv).outstanding = some (.move .toOpen)) ∧
    (s.cross.stage = .opening →
      let t := s.valveOpens
      t.cross.stage = .flowing ∧ t.cross.valveAccepted = true ∧ t.cross.grant = s.cross.grant ∧
        t.cross.exchangeTimer = some (s.now + s.cfg.crossExchangeLimit * 1000) ∧
        (∀ c, t.cross.claims.get c = (s.cross.claims.get c).map fun k => { k with waitRunning := false }) ∧
        ∀ c, t.seq c =
          if s.phase c = .crossing then
            { s.seq c with levelTimer := some (s.now + (s.cfg.chambers.get c).levellingLimit * 1000) }
          else s.seq c)

/-- A wait timer that expires unmatched removes the claim and releases the chamber to LEVELLING (R81); of a granted chamber in
OPENING it ends the exchange (R78), as the exchange timer does in FLOWING (R79). An exchange that ends stops its timers, the level
timers with them, is CLOSING, and asks XV to close. The third scan with the head within the margin ends it too. When it is over the
end marks are written and the grant cleared, and both chambers are released (R80); that every claim goes then, one registered during
CLOSING with it, is log 36 (DEDUCED). That a grant taken before the expiry of its own moment has by then sent XV's START OPEN on a
free line, so that XV opens before it closes, is log 63 (DESIGN CHOICE). -/
def Obligations.ExchangeEnds : Prop :=
  (∀ (dt : Nat) (s : State), s.isHeld = false →
    (∀ c k, s.cross.claims.get c = some k → k.waitRunning = true → k.waitExpiry ≤ s.now + dt →
      ((s.cross.stage = .none ∨ s.granted c = false) →
        TakesPlace s dt (fun u => u.dropClaim c) { s.frame with now := s.now + dt } (exec (.crossWaitExpiry dt c) s)) ∧
      (s.cross.stage = .opening → s.granted c = true →
        TakesPlace s dt (fun u => (u.setClaim c (some { k with waitRunning := false })).endExchange)
          { s.frame with now := s.now + dt } (exec (.crossWaitExpiry dt c) s))) ∧
    ∀ x, s.cross.exchangeTimer = some x → x ≤ s.now + dt → s.cross.stage = .flowing →
      TakesPlace s dt State.endExchange { s.frame with now := s.now + dt } (exec (.crossExchangeExpiry dt) s)) ∧
  ∀ (s : State),
    (∀ c, ((s.dropClaim c).cross.claims.get c = none ∧
      (s.dropClaim c).cross.claims.get c.other = s.cross.claims.get c.other ∧
      (s.dropClaim c).phase c = if s.phase c = .crossing then .levelling else s.phase c)) ∧
    (let t := s.endExchange
     t.cross.stage = .closing ∧ t.cross.exchangeTimer = none ∧ t.cross.grant = s.cross.grant ∧
       (∀ c, (t.seq c).levelTimer = none ∧ t.phase c = s.phase c) ∧
       (∀ c k, s.granted c = true → t.cross.claims.get c = some k → k.waitRunning = false) ∧
       ((s.dev .xv).position ≠ .faulted → (s.dev .xv).atRest = true → s.confirmedClosed .xv = false →
         (t.dev .xv).queued = some ⟨.start .toClose, s.now⟩ ∧ (t.dev .xv).outstanding = some (.move .toClose)) ∧
       ((s.dev .xv).position ≠ .faulted → (s.dev .xv).startQueued = true →
         (t.dev .xv).queued = some ⟨.start .toClose, s.now⟩ ∧ (t.dev .xv).outstanding = some (.move .toClose)) ∧
       ((s.dev .xv).position ≠ .faulted → (s.dev .xv).atRest = false → (s.dev .xv).startQueued = false →
         (t.dev .xv).nextStart = some .toClose ∧ (t.dev .xv).queued = (s.dev .xv).queued)) ∧
    (s.cross.stage = .flowing →
      let n := if s.headWithin then min 3 (s.cross.stopCounter + 1) else 0
      s.watchHead.cross.stopCounter = n ∧ s.watchHead.cross.stage = (if n = 3 then .closing else .flowing)) ∧
    ∀ g, s.cross.grant = some g →
      let t := s.exchangeOver
      t.cross.grant = none ∧ t.cross.stage = .none ∧ t.cross.stopCounter = 0 ∧
        ∀ c, t.cross.claims.get c = none ∧
          t.phase c = (if s.phase c = .crossing then .levelling else s.phase c) ∧
          ∀ l, (s.seq c).lockage = some l → ∃ k, (t.seq c).lockage = some k ∧ k.serial = l.serial ∧
            (l.serial = g.serials.get c →
              if s.cross.valveAccepted then k.crossStart = l.crossStart ∧ k.crossEnd = s.crossMarks ∧ k.crossUsed = true
              else k.crossStart = none ∧ k.crossUsed = false) ∧
            (l.serial ≠ g.serials.get c →
              k.crossStart = l.crossStart ∧ k.crossEnd = l.crossEnd ∧ k.crossUsed = l.crossUsed)

/-! ### Faults -/

/-- What the safing requests make of a sluice's record at the time `now` (R93): nothing for one that is confirmed CLOSED or FAULTED; a
STOP request where its outstanding command or its queued START is OPEN; then a request to close, unless its outstanding command or its
next start is CLOSE already. -/
def sluiceSafed (r : DeviceRecord) (closed barred : Bool) (now : Nat) : DeviceRecord :=
  if closed = true ∨ r.position = .faulted then r
  else
    let opens : Prop := r.outstanding = some (.move .toOpen) ∨ r.queued.map (·.task) = some (.start .toOpen)
    let x := if opens then stopMade r barred now else r
    if x.outstanding = some (.move .toClose) ∨ x.nextStart = some .toClose then x else startTaken x barred closed now .toClose

/-- What the safing requests of a chamber make of a device (R93): a STOP request for each gate, and those for its sluices. -/
def safed (s : State) (c : Chamber) (d : Device) : DeviceRecord :=
  let closed : Bool := decide ((s.dev d).reportedEnd = some .closed ∧ s.drive.limits.get d = .active)
  if d ∉ c.devices then s.dev d
  else
    match d with
    | .gate _ _ => stopMade (s.dev d) (s.drive.barred.get c) s.now
    | .sluice _ _ => sluiceSafed (s.dev d) closed (s.drive.barred.get c) s.now
    | .xv => s.dev d

/-- SAFING may end (R94): each sluice is confirmed CLOSED or FAULTED, each gate at rest or FAULTED, and the chamber is not named in
the cross grant. -/
def SafingOver (s : State) (c : Chamber) : Prop :=
  (∀ e,
    (StandsClosed s (.sluice c e) ∨ (s.dev (.sluice c e)).position = .faulted) ∧
      let g := s.dev (.gate c e)
      ((g.outstanding = none ∧ g.queued = none ∧ g.onLine = none ∧ g.awaitingDone = false) ∨ g.position = .faulted)) ∧
    ∀ g, s.cross.grant = some g → g.drain ≠ c ∧ g.fill ≠ c

/-- A fault is classed by the chamber's phase: a first one replaces the record and sends the chamber to SAFING with the hold record
of R92, a second one is written beside the first and locks the chamber out and bars it, a later one changes nothing. Under a
configuration read that ended INVALID a chamber out of service only records its faults, first and second (R90, R92, R97, R100). A
report to a chamber is taken so. The safing requests are made at the entry to SAFING and, while it lasts, whenever making them
changes a record (R93). Otherwise SAFING ends when the conditions of R94 hold: the chamber enters HOLD with FAULT added to its hold
set, its resume phase kept, with STOP requests for its devices and HOLD_ENTERED (R65, R94). That both are tested at the end of every
event is log 15 (DEDUCED). -/
def Obligations.FaultsAreTaken : Prop :=
  (∀ (s : State) (c : Chamber),
    (s.phase c ≠ .safing → s.safingStep? c = none) ∧
    (s.phase c = .safing →
      let asks : Prop := ∃ d ∈ c.devices, safed s c d ≠ s.dev d
      (asks → ∃ u, s.safingStep? c = some u ∧ (∀ d, u.dev d = safed s c d) ∧
        u = { s with drive := { s.drive with devices := u.drive.devices } }) ∧
      (¬asks → ¬SafingOver s c → s.safingStep? c = none) ∧
      (¬asks → SafingOver s c →
        ∃ u, s.safingStep? c = some u ∧ chamberStopped s u c ∧ (∀ d, d ∉ c.devices → u.dev d = s.dev d) ∧
          u = { s with
                drive := { s.drive with devices := u.drive.devices }
                seqs := s.seqs.set c
                  { s.seq c with
                    phase := .hold, stepWait := none, levelTimer := none, timerDue := false, levelReached := false
                    levelLostRaised := false, holds := { (s.seq c).holds with fault := true } }
                event :=
                  { s.event with
                    produced := s.event.produced ++ [.phaseChanged c .safing, .holdEntered c .fault] } }))) ∧
  ∀ (s : State) (c : Chamber) (f : FaultEntry),
    s.takeReport (.chamber c f) = s.takeFault c f ∧
    let t := s.takeFault c f
    let q := s.seq c
    (q.phase ≠ .safing → q.phase ≠ .lockedOut → ¬(q.phase = .hold ∧ q.holds.fault = true) →
      ¬(q.phase = .outOfService ∧ s.configValid = false) →
      t.phase c = .safing ∧ (t.seq c).faults = ⟨some f, none, false⟩ ∧
        ((t.seq c).lockage.map fun l => (l.serial, l.plan, l.reservation)) =
          (q.lockage.map fun l => (l.serial, l.plan, l.reservation)) ∧
        (t.seq c).stepWait = none ∧ (t.seq c).levelTimer = none ∧
        (q.phase = .hold → (t.seq c).holds = q.holds ∧ (t.seq c).resume = q.resume) ∧
        (q.phase ≠ .hold → (t.seq c).holds = .empty ∧
          (t.seq c).resume = some (if q.phase = .crossing then .levelling else q.phase)) ∧
        (q.phase = .crossing → t.cross.claims.get c = none) ∧
        ∀ d, (d ≠ .xv ∨ q.phase ≠ .crossing) → t.dev d = safed s c d) ∧
    ((q.phase = .safing ∨ (q.phase = .hold ∧ q.holds.fault = true)) →
      t.phase c = .lockedOut ∧ (t.seq c).faults = { q.faults with second := some f } ∧ (t.seq c).holds = .empty ∧
        (t.seq c).resume = q.resume ∧ (t.seq c).lockage = q.lockage ∧ t.drive.barred.get c = true ∧
        ∀ d ∈ c.devices, (t.dev d).startQueued = false ∧ (t.dev d).nextStart = none) ∧
    (q.phase = .lockedOut → t.seq c = q ∧ t.drive = s.drive) ∧
    (q.phase = .outOfService → s.configValid = false →
      t.drive = s.drive ∧
        t.seq c = { q with
          faults :=
            match q.faults.first, q.faults.second with
            | none, _ => ⟨some f, none, false⟩
            | some _, none => { q.faults with second := some f }
            | some _, some _ => q.faults })

/-! ### Lamps -/

/-- A lamp's record after a sample of its monitor (R144, R145): three low samples in a row latch a lamp that is commanded on, three
that disagree with its stray value turn the stray value of one that is commanded off. -/
def sampledAs (l : LampRecord) (active : Bool) (m : LampRecord) : Prop :=
  (m.failed =
    (l.failed || (l.commanded && !active && decide (l.lowCount = 2)))) ∧
  (m.lowCount = if l.commanded ∧ ¬l.failed ∧ ¬active ∧ l.lowCount ≠ 2 then l.lowCount + 1 else 0) ∧
  (m.stray = if ¬l.commanded ∧ l.strayCount = 2 then active else l.stray) ∧
  (m.strayCount = if ¬l.commanded ∧ active ≠ l.stray ∧ l.strayCount ≠ 2 then l.strayCount + 1 else 0)

/-- A lamp-current sample, taken every 100 ms, counts all 24 lamps. One that latches a lamp or turns a stray value re-lights the
heads and lets the sequencers react; any other leaves everything else as it is. Before the moment of the next sample only the time
passes; that the first moment is 100 ms after a release and that the moments keep their spacing is log 51. The rows LAMP_LATCH and
LAMP_STRAY are such a sample in which the named lamp is latched, or turns its stray value (R144, R145; log 34). -/
def Obligations.LampSamples : Prop :=
  ∀ (dt : Nat) (m : PerHead (PerLamp Bool)) (s : State), s.isHeld = false →
    let u := (s.beginEvent dt).lampSample m
    let quiet : Prop := ∀ h l, latchedNow s u h l = false ∧ strayChanged s u h l = false
    let next := s.nextLampSample + 100
    (s.now + dt < s.nextLampSample → ∀ x, (x = .lampCurrentSample dt m ∨ ∃ h l, x = .lampLatch dt h l m ∨ x = .lampStray dt h l m) →
      exec x s = .next { s with now := s.now + dt, event := .blank }) ∧
    (s.nextLampSample ≤ s.now + dt →
      (∀ h l, sampledAs (s.lamp h l) ((PerHead.get m h).get l) (u.lamp h l) ∧
        (u.lamp h l).commanded = (s.lamp h l).commanded) ∧
      (quiet → ∃ t, exec (.lampCurrentSample dt m) s = .next t ∧ LinksQuiet s t ∧
        t = { s with
              now := s.now + dt, heads := u.heads, nextLampSample := next, links := t.links, event := .blank }) ∧
      (¬quiet →
        TakesPlace s dt (fun u => u.lampSample m) { s.frame with now := s.now + dt, nextLampSample := next }
          (exec (.lampCurrentSample dt m) s) ∧
        ∀ t, exec (.lampCurrentSample dt m) s = .next t → ∀ h,
          (PerHead.get t.heads h).failed = (PerHead.get u.heads h).failed ∧
            (PerHead.get t.heads h).lit (t.requiredAspect h)) ∧
      (∀ h l, latchedNow s u h l = true → exec (.lampLatch dt h l m) s = exec (.lampCurrentSample dt m) s) ∧
      ∀ h l, strayChanged s u h l = true → exec (.lampStray dt h l m) s = exec (.lampCurrentSample dt m) s)

/-! ### Holds, releases and starts -/

/-- What the hold of the part leaves (R26, R38, R142, R199, R201): the start stage RESET, no lamp commanded on and red1 of every head
lit by the fail-safe stage, the level records at their values of R39, every operation of the links, the drive line and the sensor line
abandoned; everything else as it was. -/
def HeldFrom (s : State) (dt : Nat) (h : Hold) (o : Machine.Outcome) : Prop :=
  ∃ t, o = .next t ∧
    t = { s with
          now := s.now + dt
          drive := { s.drive with devices := t.drive.devices, sentAt := none }
          levels := State.reset.levels
          heads := t.heads
          links := t.links
          start := { s.start with stage := .reset, hold := h, reconfigurePending := false }
          event := .blank } ∧
    (∀ d, t.dev d = { s.dev d with onLine := none }) ∧
    (∀ x, t.port x = { s.port x with receive := [], reply := none, busy := none, sending := none }) ∧
    ∀ x, (PerHead.get t.heads x).failed = (PerHead.get s.heads x).failed ∧ (PerHead.get t.heads x).shown = .red ∧
      (PerHead.get t.heads x).lamps.map (·.commanded) = ⟨false, false, false⟩ ∧
      ∀ l, t.lampLit x l = decide (l = .red1)

/-- The reset line and the main power hold the part, as does the end of the reply to an accepted LOAD CONFIGURATION; a low battery
without main power makes the retained domain invalid (R201, R202, R206). The release starts the part: cold after a loss of power
with the retained domain invalid, and warm otherwise, which keeps the retained blocks but for the reservations. Every start sets the
volatile state anew (R166, R181, R202). The model's own are: the kind of start after a hold of several causes, with the note of a
loss of power (log 25), the first tick after a cold start (log 27), the first lamp sample (log 51), the samples of the inputs (log
59), and that the rest of the volatile state stays readable as it was while the part is held (log 31). The line, the power and the
retained supply are found so on three 1 ms samples after the last change, and a command before the third only lets the time pass
(R201, R202; logs 5 and 9, also for which of two that held the part together has let go). -/
def Obligations.HoldsAndStarts : Prop :=
  ∀ (dt : Nat) (s : State),
    let h := s.start.hold
    let moment := s.now + dt
    let rests (o : Machine.Outcome) : Prop := o = .next { s with now := moment, event := .blank }
    (moment < h.lineTurned + 3 → rests (exec (.resetLineHeld dt) s)) ∧
    (moment < h.powerTurned + 3 → rests (exec (.mainPowerHeld dt) s) ∧ rests (exec (.batteryLow dt) s)) ∧
    (((h.line = true ∧ moment < h.lineTurned + 3) ∨ (h.power = true ∧ moment < h.powerTurned + 3)) →
      rests (exec (.partReleased dt) s)) ∧
    (h.line = false → h.lineTurned + 3 ≤ moment →
      HeldFrom s dt { h with line := true, powerLost := s.isHeld && h.powerLost, lineTurned := moment }
        (exec (.resetLineHeld dt) s)) ∧
    (h.power = false → h.powerTurned + 3 ≤ moment →
      HeldFrom s dt { h with power := true, powerLost := true, powerTurned := moment } (exec (.mainPowerHeld dt) s)) ∧
    (s.isHeld = false → s.start.reconfigurePending = true → (s.port .desk).sending = some .reply →
      HeldFrom s dt { h with reconfigure := true, powerLost := false } (exec (.frameSent dt .desk) s)) ∧
    (h.power = true → h.powerTurned + 3 ≤ moment → exec (.batteryLow dt) s =
      .next { s with now := s.now + dt, start := { s.start with retainedValid := false }, event := .blank }) ∧
    (s.isHeld = true → (h.line = true → h.lineTurned + 3 ≤ moment) → (h.power = true → h.powerTurned + 3 ≤ moment) →
      let cold := h.powerLost && !s.start.retainedValid
      exec (.partReleased dt) s = .next
        { State.reset with
          now := s.now + dt
          nextLampSample := s.now + dt + 100
          samplesFrom := s.now + dt
          pending := s.pending
          charge :=
            if cold then { clock := ⟨⟨0, 0, 0⟩, false, s.now + dt + 1000⟩, current := none, pending := none } else s.charge
          acct := if cold then State.reset.acct else { s.acct with reservations := 0 }
          start :=
            { State.reset.start with
              retainedValid := s.start.retainedValid || cold
              kind :=
                if cold then .cold else if h.powerLost then .warm else if h.reconfigure then .reconfigured else .lineReset
              hold :=
                { State.reset.start.hold with
                  lineTurned := if h.line = true ∧ h.power = false then moment else h.lineTurned
                  powerTurned := if h.power = true ∧ h.line = false then moment else h.powerTurned }
              store := s.start.store } })

/-- The configuration read ends (R203): a block that passes every check makes the configuration VALID, begins scanning and enters
the census; one that does not, or a store that does not answer, makes it INVALID with the first failed check and ends the start-up
with both chambers out of service. R203 has them enter it from IDLE; that one which a request has taken to HOLD or OUT_OF_SERVICE
during the read goes the same way is log 53, that RANGE names the first field out of range log 57 (DESIGN CHOICE). Either arms the
trips, for which the samples after it count (log 59). The census queries every device once every limit is known or 100 ms have passed,
and ends when no device has its query flag set (R204). Then, in this order, a START CLOSE is requested for each sluice and for XV that
is not FAULTED and not confirmed CLOSED, the stage becomes ENDED, emergency handling runs for the upper queue before the lower, and
STARTED is produced (R132, R205). -/
def Obligations.ConfigurationReadAndCensus : Prop :=
  (∀ (dt : Nat) (s : State), s.isHeld = false →
    (∀ answers, s.start.stage = .reading →
      let bytes := if answers then s.start.store else List.replicate 99 0xFF#8
      let trip : Trip := ⟨true, true, s.now + dt + 1⟩
      let armed : DriveController := { s.frame.drive with limitTrips := .both trip, crossTrip := trip }
      (storedFault bytes = none →
        ∃ t, exec (.configReadEnd dt answers) s = .next t ∧ LinksServed s t ∧
          t.frame = { s.frame with
            now := s.now + dt
            drive := armed
            levels := { s.levels with firstScan := some (s.now + dt), exchanging := true, nextScan := some (s.now + dt + 250) }
            start := { s.frame.start with config := .valid, image := some (readBlock bytes), censusSince := s.now + dt } } ∧
          (s.start.queriesPlaced = false → t.start.stage = .census)) ∧
      ∀ cause, storedFault bytes = some cause →
        ∃ t, exec (.configReadEnd dt answers) s = .next t ∧ LinksServed s t ∧
          t.frame = { s.frame with
            now := s.now + dt
            drive := armed
            start := { s.frame.start with config := .invalid (some cause), image := some (readBlock bytes) } } ∧
          t.start.stage = .ended ∧
          ∀ c, (((s.beginEvent dt).readEnds answers).phase c = .outOfService)) ∧
    storedFault (List.replicate 99 0xFF#8) = some .format ∧
    (s.start.stage = .census → s.start.queriesPlaced = false →
      ((∀ d, s.drive.limits.get d ≠ .unknown) ∨ s.start.censusSince + 100 ≤ s.now + dt) →
      TakesPlace s dt State.placeQueries
        { s.frame with now := s.now + dt, start := { s.frame.start with queriesPlaced := true } }
        (exec (.censusQueries dt) s) ∧
      let u := (s.beginEvent dt).placeQueries
      ∀ d, u.dev d = queryMade (s.dev d) (s.now + dt))) ∧
  ∀ (s : State),
    let ended : Prop := s.start.stage = .census ∧ s.start.queriesPlaced = true ∧ ∀ d, (s.dev d).queryFlag = false
    let strays (d : Device) : Prop :=
      (∀ c e, d ≠ .gate c e) ∧ (s.dev d).position ≠ .faulted ∧ ¬StandsClosed s d
    (s.react? = none → s.startUpStep? = none) ∧
    (¬ended → s.startUpStep? = none) ∧
    (ended → ∃ w : State,
      w = { s with
            drive := { s.drive with devices := w.drive.devices }, start := { s.start with stage := .ended } } ∧
      (∀ d, (strays d → w.dev d = startMade s s.now d .toClose) ∧ (¬strays d → w.dev d = s.dev d)) ∧
      let v := (s.traffic.queues.upper ++ s.traffic.queues.lower).foldl State.handleEmergency w
      s.startUpStep? = some { v with event := { v.event with produced := v.event.produced ++ [.started] } }) ∧
    s.noticeOf .started =
      ⟨.started, .lock,
        .started s.start.kind s.start.config s.charge.clock.isSet s.acct.period s.acct.journal.length s.acct.serial⟩
end

