-- ==== Sys2Proof/Laws/State.lean ====
section
/-! SUPPORT. The fields of the state after each named update (Machine/Ops.lean), and reads after writes of the containers. -/

namespace Sys2Proof

/-! ### Containers -/

@[simp] theorem PerChamber.get_set_self {α : Type} (p : PerChamber α) (i : Chamber) (v : α) : (p.set i v).get i = v := by
  cases i <;> rfl

@[simp] theorem PerChamber.get_set_ne {α : Type} (p : PerChamber α) {i j : Chamber} (v : α) (h : j ≠ i) :
    (p.set i v).get j = p.get j := by
  cases i <;> cases j <;> first | rfl | exact absurd rfl h

@[simp] theorem PerChamber.set_get {α : Type} (p : PerChamber α) (i : Chamber) : p.set i (p.get i) = p := by
  cases i <;> rfl

@[simp] theorem PerEnd.get_set_self {α : Type} (p : PerEnd α) (i : End) (v : α) : (p.set i v).get i = v := by
  cases i <;> rfl

@[simp] theorem PerEnd.get_set_ne {α : Type} (p : PerEnd α) {i j : End} (v : α) (h : j ≠ i) :
    (p.set i v).get j = p.get j := by
  cases i <;> cases j <;> first | rfl | exact absurd rfl h

@[simp] theorem PerEnd.set_get {α : Type} (p : PerEnd α) (i : End) : p.set i (p.get i) = p := by
  cases i <;> rfl

@[simp] theorem PerLink.get_set_self {α : Type} (p : PerLink α) (i : Link) (v : α) : (p.set i v).get i = v := by
  cases i <;> rfl

@[simp] theorem PerLink.get_set_ne {α : Type} (p : PerLink α) {i j : Link} (v : α) (h : j ≠ i) :
    (p.set i v).get j = p.get j := by
  cases i <;> cases j <;> first | rfl | exact absurd rfl h

@[simp] theorem PerLink.set_get {α : Type} (p : PerLink α) (i : Link) : p.set i (p.get i) = p := by
  cases i <;> rfl

@[simp] theorem PerSide.get_set_self {α : Type} (p : PerSide α) (i : Side) (v : α) : (p.set i v).get i = v := by
  cases i <;> rfl

@[simp] theorem PerSide.get_set_ne {α : Type} (p : PerSide α) {i j : Side} (v : α) (h : j ≠ i) :
    (p.set i v).get j = p.get j := by
  cases i <;> cases j <;> first | rfl | exact absurd rfl h

@[simp] theorem PerSide.set_get {α : Type} (p : PerSide α) (i : Side) : p.set i (p.get i) = p := by
  cases i <;> rfl

@[simp] theorem PerDevice.get_set_self {α : Type} (p : PerDevice α) (d : Device) (v : α) : (p.set d v).get d = v := by
  cases d <;> simp [PerDevice.get, PerDevice.set]

@[simp] theorem PerDevice.get_set_ne {α : Type} (p : PerDevice α) {d x : Device} (v : α) (h : x ≠ d) :
    (p.set d v).get x = p.get x := by
  rcases d with ⟨c, e⟩ | ⟨c, e⟩ | _ <;> rcases x with ⟨c', e'⟩ | ⟨c', e'⟩ | _ <;>
    first
    | rfl
    | exact absurd rfl h
    | (cases c <;> cases c' <;> cases e <;> cases e' <;> first | rfl | exact absurd rfl h)

@[simp] theorem PerDevice.set_get {α : Type} (p : PerDevice α) (d : Device) : p.set d (p.get d) = p := by
  cases d <;> simp [PerDevice.get, PerDevice.set]

@[simp] theorem PerChamber.get_map {α β : Type} (g : α → β) (p : PerChamber α) (c : Chamber) :
    (p.map g).get c = g (p.get c) := by
  cases c <;> rfl

@[simp] theorem PerChamber.get_of {α : Type} (g : Chamber → α) (c : Chamber) : (PerChamber.of g).get c = g c := by
  cases c <;> rfl

@[simp] theorem PerChamber.get_both {α : Type} (v : α) (c : Chamber) : (PerChamber.both v).get c = v := by
  cases c <;> rfl

@[simp] theorem PerLink.get_map {α β : Type} (g : Link → α → β) (p : PerLink α) (l : Link) :
    (p.map g).get l = g l (p.get l) := by
  cases l <;> rfl

@[simp] theorem PerDevice.get_map {α β : Type} (g : α → β) (p : PerDevice α) (d : Device) :
    (p.map g).get d = g (p.get d) := by
  obtain ⟨c, e⟩ | ⟨c, e⟩ | _ := d <;> first | rfl | (cases c <;> cases e <;> rfl)

@[simp] theorem PerHead.get_of {α : Type} (g : Head → α) (h : Head) : PerHead.get (PerHead.of g) h = g h := by
  obtain ⟨c, e, x⟩ := h
  cases c <;> cases e <;> cases x <;> rfl

@[simp] theorem PerDevice.get_all {α : Type} (v : α) (d : Device) : (PerDevice.all v).get d = v := by
  obtain ⟨c, e⟩ | ⟨c, e⟩ | _ := d <;> first | rfl | (cases c <;> cases e <;> rfl)

end Sys2Proof

namespace Sys2Proof.Machine

/-! ### beginEvent -/

@[simp] theorem State.beginEvent_now (s : State) (dt : Nat) : (s.beginEvent dt).now =
    s.now + dt := rfl
@[simp] theorem State.beginEvent_pending (s : State) (dt : Nat) : (s.beginEvent dt).pending = s.pending := rfl
@[simp] theorem State.beginEvent_drive (s : State) (dt : Nat) : (s.beginEvent dt).drive = s.drive := rfl
@[simp] theorem State.beginEvent_levels (s : State) (dt : Nat) : (s.beginEvent dt).levels = s.levels := rfl
@[simp] theorem State.beginEvent_seqs (s : State) (dt : Nat) : (s.beginEvent dt).seqs = s.seqs := rfl
@[simp] theorem State.beginEvent_cross (s : State) (dt : Nat) : (s.beginEvent dt).cross = s.cross := rfl
@[simp] theorem State.beginEvent_heads (s : State) (dt : Nat) : (s.beginEvent dt).heads = s.heads := rfl
@[simp] theorem State.beginEvent_nextLampSample (s : State) (dt : Nat) : (s.beginEvent dt).nextLampSample = s.nextLampSample := rfl
@[simp] theorem State.beginEvent_samplesFrom (s : State) (dt : Nat) : (s.beginEvent dt).samplesFrom = s.samplesFrom := rfl
@[simp] theorem State.beginEvent_traffic (s : State) (dt : Nat) : (s.beginEvent dt).traffic = s.traffic := rfl
@[simp] theorem State.beginEvent_charge (s : State) (dt : Nat) : (s.beginEvent dt).charge = s.charge := rfl
@[simp] theorem State.beginEvent_acct (s : State) (dt : Nat) : (s.beginEvent dt).acct = s.acct := rfl
@[simp] theorem State.beginEvent_auth (s : State) (dt : Nat) : (s.beginEvent dt).auth = s.auth := rfl
@[simp] theorem State.beginEvent_links (s : State) (dt : Nat) : (s.beginEvent dt).links = s.links := rfl
@[simp] theorem State.beginEvent_start (s : State) (dt : Nat) : (s.beginEvent dt).start = s.start := rfl

/-! ### rest -/

@[simp] theorem State.rest_now (s : State) : s.rest.now = s.now := rfl
@[simp] theorem State.rest_pending (s : State) : s.rest.pending = s.pending := rfl
@[simp] theorem State.rest_drive (s : State) : s.rest.drive = s.drive := rfl
@[simp] theorem State.rest_levels (s : State) : s.rest.levels = s.levels := rfl
@[simp] theorem State.rest_seqs (s : State) : s.rest.seqs = s.seqs := rfl
@[simp] theorem State.rest_cross (s : State) : s.rest.cross = s.cross := rfl
@[simp] theorem State.rest_heads (s : State) : s.rest.heads = s.heads := rfl
@[simp] theorem State.rest_nextLampSample (s : State) : s.rest.nextLampSample = s.nextLampSample := rfl
@[simp] theorem State.rest_samplesFrom (s : State) : s.rest.samplesFrom = s.samplesFrom := rfl
@[simp] theorem State.rest_traffic (s : State) : s.rest.traffic = s.traffic := rfl
@[simp] theorem State.rest_charge (s : State) : s.rest.charge = s.charge := rfl
@[simp] theorem State.rest_acct (s : State) : s.rest.acct = s.acct := rfl
@[simp] theorem State.rest_auth (s : State) : s.rest.auth = s.auth := rfl
@[simp] theorem State.rest_links (s : State) : s.rest.links = s.links := rfl
@[simp] theorem State.rest_start (s : State) : s.rest.start = s.start := rfl
@[simp] theorem State.rest_event (s : State) : s.rest.event =
    .blank := rfl

/-! ### setDev -/

@[simp] theorem State.setDev_now (s : State) (d : Device) (r : DeviceRecord) : (s.setDev d r).now = s.now := rfl
@[simp] theorem State.setDev_pending (s : State) (d : Device) (r : DeviceRecord) : (s.setDev d r).pending = s.pending := rfl
@[simp] theorem State.setDev_drive (s : State) (d : Device) (r : DeviceRecord) : (s.setDev d r).drive =
    { s.drive with devices := s.drive.devices.set d r } := rfl
@[simp] theorem State.setDev_levels (s : State) (d : Device) (r : DeviceRecord) : (s.setDev d r).levels = s.levels := rfl
@[simp] theorem State.setDev_seqs (s : State) (d : Device) (r : DeviceRecord) : (s.setDev d r).seqs = s.seqs := rfl
@[simp] theorem State.setDev_cross (s : State) (d : Device) (r : DeviceRecord) : (s.setDev d r).cross = s.cross := rfl
@[simp] theorem State.setDev_heads (s : State) (d : Device) (r : DeviceRecord) : (s.setDev d r).heads = s.heads := rfl
@[simp] theorem State.setDev_nextLampSample (s : State) (d : Device) (r : DeviceRecord) : (s.setDev d r).nextLampSample = s.nextLampSample := rfl
@[simp] theorem State.setDev_samplesFrom (s : State) (d : Device) (r : DeviceRecord) : (s.setDev d r).samplesFrom = s.samplesFrom := rfl
@[simp] theorem State.setDev_traffic (s : State) (d : Device) (r : DeviceRecord) : (s.setDev d r).traffic = s.traffic := rfl
@[simp] theorem State.setDev_charge (s : State) (d : Device) (r : DeviceRecord) : (s.setDev d r).charge = s.charge := rfl
@[simp] theorem State.setDev_acct (s : State) (d : Device) (r : DeviceRecord) : (s.setDev d r).acct = s.acct := rfl
@[simp] theorem State.setDev_auth (s : State) (d : Device) (r : DeviceRecord) : (s.setDev d r).auth = s.auth := rfl
@[simp] theorem State.setDev_links (s : State) (d : Device) (r : DeviceRecord) : (s.setDev d r).links = s.links := rfl
@[simp] theorem State.setDev_start (s : State) (d : Device) (r : DeviceRecord) : (s.setDev d r).start = s.start := rfl
@[simp] theorem State.setDev_event (s : State) (d : Device) (r : DeviceRecord) : (s.setDev d r).event = s.event := rfl

/-! ### modSeq -/

@[simp] theorem State.modSeq_now (s : State) (c : Chamber) (g : Sequencer → Sequencer) : (s.modSeq c g).now = s.now := rfl
@[simp] theorem State.modSeq_pending (s : State) (c : Chamber) (g : Sequencer → Sequencer) : (s.modSeq c g).pending = s.pending := rfl
@[simp] theorem State.modSeq_drive (s : State) (c : Chamber) (g : Sequencer → Sequencer) : (s.modSeq c g).drive = s.drive := rfl
@[simp] theorem State.modSeq_levels (s : State) (c : Chamber) (g : Sequencer → Sequencer) : (s.modSeq c g).levels = s.levels := rfl
@[simp] theorem State.modSeq_seqs (s : State) (c : Chamber) (g : Sequencer → Sequencer) : (s.modSeq c g).seqs =
    s.seqs.set c (g (s.seqs.get c)) := rfl
@[simp] theorem State.modSeq_cross (s : State) (c : Chamber) (g : Sequencer → Sequencer) : (s.modSeq c g).cross = s.cross := rfl
@[simp] theorem State.modSeq_heads (s : State) (c : Chamber) (g : Sequencer → Sequencer) : (s.modSeq c g).heads = s.heads := rfl
@[simp] theorem State.modSeq_nextLampSample (s : State) (c : Chamber) (g : Sequencer → Sequencer) : (s.modSeq c g).nextLampSample = s.nextLampSample := rfl
@[simp] theorem State.modSeq_samplesFrom (s : State) (c : Chamber) (g : Sequencer → Sequencer) : (s.modSeq c g).samplesFrom = s.samplesFrom := rfl
@[simp] theorem State.modSeq_traffic (s : State) (c : Chamber) (g : Sequencer → Sequencer) : (s.modSeq c g).traffic = s.traffic := rfl
@[simp] theorem State.modSeq_charge (s : State) (c : Chamber) (g : Sequencer → Sequencer) : (s.modSeq c g).charge = s.charge := rfl
@[simp] theorem State.modSeq_acct (s : State) (c : Chamber) (g : Sequencer → Sequencer) : (s.modSeq c g).acct = s.acct := rfl
@[simp] theorem State.modSeq_auth (s : State) (c : Chamber) (g : Sequencer → Sequencer) : (s.modSeq c g).auth = s.auth := rfl
@[simp] theorem State.modSeq_links (s : State) (c : Chamber) (g : Sequencer → Sequencer) : (s.modSeq c g).links = s.links := rfl
@[simp] theorem State.modSeq_start (s : State) (c : Chamber) (g : Sequencer → Sequencer) : (s.modSeq c g).start = s.start := rfl
@[simp] theorem State.modSeq_event (s : State) (c : Chamber) (g : Sequencer → Sequencer) : (s.modSeq c g).event = s.event := rfl

/-! ### modLockage -/

@[simp] theorem State.modLockage_now (s : State) (c : Chamber) (g : LockageRecord → LockageRecord) : (s.modLockage c g).now = s.now := rfl
@[simp] theorem State.modLockage_pending (s : State) (c : Chamber) (g : LockageRecord → LockageRecord) : (s.modLockage c g).pending = s.pending := rfl
@[simp] theorem State.modLockage_drive (s : State) (c : Chamber) (g : LockageRecord → LockageRecord) : (s.modLockage c g).drive = s.drive := rfl
@[simp] theorem State.modLockage_levels (s : State) (c : Chamber) (g : LockageRecord → LockageRecord) : (s.modLockage c g).levels = s.levels := rfl
@[simp] theorem State.modLockage_cross (s : State) (c : Chamber) (g : LockageRecord → LockageRecord) : (s.modLockage c g).cross = s.cross := rfl
@[simp] theorem State.modLockage_heads (s : State) (c : Chamber) (g : LockageRecord → LockageRecord) : (s.modLockage c g).heads = s.heads := rfl
@[simp] theorem State.modLockage_nextLampSample (s : State) (c : Chamber) (g : LockageRecord → LockageRecord) : (s.modLockage c g).nextLampSample = s.nextLampSample := rfl
@[simp] theorem State.modLockage_samplesFrom (s : State) (c : Chamber) (g : LockageRecord → LockageRecord) : (s.modLockage c g).samplesFrom = s.samplesFrom := rfl
@[simp] theorem State.modLockage_traffic (s : State) (c : Chamber) (g : LockageRecord → LockageRecord) : (s.modLockage c g).traffic = s.traffic := rfl
@[simp] theorem State.modLockage_charge (s : State) (c : Chamber) (g : LockageRecord → LockageRecord) : (s.modLockage c g).charge = s.charge := rfl
@[simp] theorem State.modLockage_acct (s : State) (c : Chamber) (g : LockageRecord → LockageRecord) : (s.modLockage c g).acct = s.acct := rfl
@[simp] theorem State.modLockage_auth (s : State) (c : Chamber) (g : LockageRecord → LockageRecord) : (s.modLockage c g).auth = s.auth := rfl
@[simp] theorem State.modLockage_links (s : State) (c : Chamber) (g : LockageRecord → LockageRecord) : (s.modLockage c g).links = s.links := rfl
@[simp] theorem State.modLockage_start (s : State) (c : Chamber) (g : LockageRecord → LockageRecord) : (s.modLockage c g).start = s.start := rfl
@[simp] theorem State.modLockage_event (s : State) (c : Chamber) (g : LockageRecord → LockageRecord) : (s.modLockage c g).event = s.event := rfl

/-! ### setAuth -/

@[simp] theorem State.setAuth_now (s : State) (c : Chamber) (a : Authority) : (s.setAuth c a).now = s.now := rfl
@[simp] theorem State.setAuth_pending (s : State) (c : Chamber) (a : Authority) : (s.setAuth c a).pending = s.pending := rfl
@[simp] theorem State.setAuth_drive (s : State) (c : Chamber) (a : Authority) : (s.setAuth c a).drive = s.drive := rfl
@[simp] theorem State.setAuth_levels (s : State) (c : Chamber) (a : Authority) : (s.setAuth c a).levels = s.levels := rfl
@[simp] theorem State.setAuth_seqs (s : State) (c : Chamber) (a : Authority) : (s.setAuth c a).seqs = s.seqs := rfl
@[simp] theorem State.setAuth_cross (s : State) (c : Chamber) (a : Authority) : (s.setAuth c a).cross = s.cross := rfl
@[simp] theorem State.setAuth_heads (s : State) (c : Chamber) (a : Authority) : (s.setAuth c a).heads = s.heads := rfl
@[simp] theorem State.setAuth_nextLampSample (s : State) (c : Chamber) (a : Authority) : (s.setAuth c a).nextLampSample = s.nextLampSample := rfl
@[simp] theorem State.setAuth_samplesFrom (s : State) (c : Chamber) (a : Authority) : (s.setAuth c a).samplesFrom = s.samplesFrom := rfl
@[simp] theorem State.setAuth_traffic (s : State) (c : Chamber) (a : Authority) : (s.setAuth c a).traffic = s.traffic := rfl
@[simp] theorem State.setAuth_charge (s : State) (c : Chamber) (a : Authority) : (s.setAuth c a).charge = s.charge := rfl
@[simp] theorem State.setAuth_acct (s : State) (c : Chamber) (a : Authority) : (s.setAuth c a).acct = s.acct := rfl
@[simp] theorem State.setAuth_auth (s : State) (c : Chamber) (a : Authority) : (s.setAuth c a).auth =
    s.auth.set c a := rfl
@[simp] theorem State.setAuth_links (s : State) (c : Chamber) (a : Authority) : (s.setAuth c a).links = s.links := rfl
@[simp] theorem State.setAuth_start (s : State) (c : Chamber) (a : Authority) : (s.setAuth c a).start = s.start := rfl
@[simp] theorem State.setAuth_event (s : State) (c : Chamber) (a : Authority) : (s.setAuth c a).event = s.event := rfl

/-! ### modPort -/

@[simp] theorem State.modPort_now (s : State) (l : Link) (g : LinkPort → LinkPort) : (s.modPort l g).now = s.now := rfl
@[simp] theorem State.modPort_pending (s : State) (l : Link) (g : LinkPort → LinkPort) : (s.modPort l g).pending = s.pending := rfl
@[simp] theorem State.modPort_drive (s : State) (l : Link) (g : LinkPort → LinkPort) : (s.modPort l g).drive = s.drive := rfl
@[simp] theorem State.modPort_levels (s : State) (l : Link) (g : LinkPort → LinkPort) : (s.modPort l g).levels = s.levels := rfl
@[simp] theorem State.modPort_seqs (s : State) (l : Link) (g : LinkPort → LinkPort) : (s.modPort l g).seqs = s.seqs := rfl
@[simp] theorem State.modPort_cross (s : State) (l : Link) (g : LinkPort → LinkPort) : (s.modPort l g).cross = s.cross := rfl
@[simp] theorem State.modPort_heads (s : State) (l : Link) (g : LinkPort → LinkPort) : (s.modPort l g).heads = s.heads := rfl
@[simp] theorem State.modPort_nextLampSample (s : State) (l : Link) (g : LinkPort → LinkPort) : (s.modPort l g).nextLampSample = s.nextLampSample := rfl
@[simp] theorem State.modPort_samplesFrom (s : State) (l : Link) (g : LinkPort → LinkPort) : (s.modPort l g).samplesFrom = s.samplesFrom := rfl
@[simp] theorem State.modPort_traffic (s : State) (l : Link) (g : LinkPort → LinkPort) : (s.modPort l g).traffic = s.traffic := rfl
@[simp] theorem State.modPort_charge (s : State) (l : Link) (g : LinkPort → LinkPort) : (s.modPort l g).charge = s.charge := rfl
@[simp] theorem State.modPort_acct (s : State) (l : Link) (g : LinkPort → LinkPort) : (s.modPort l g).acct = s.acct := rfl
@[simp] theorem State.modPort_auth (s : State) (l : Link) (g : LinkPort → LinkPort) : (s.modPort l g).auth = s.auth := rfl
@[simp] theorem State.modPort_links (s : State) (l : Link) (g : LinkPort → LinkPort) : (s.modPort l g).links =
    s.links.set l (g (s.links.get l)) := rfl
@[simp] theorem State.modPort_start (s : State) (l : Link) (g : LinkPort → LinkPort) : (s.modPort l g).start = s.start := rfl
@[simp] theorem State.modPort_event (s : State) (l : Link) (g : LinkPort → LinkPort) : (s.modPort l g).event = s.event := rfl

/-! ### setClaim -/

@[simp] theorem State.setClaim_now (s : State) (c : Chamber) (k : Option CrossClaim) : (s.setClaim c k).now = s.now := rfl
@[simp] theorem State.setClaim_pending (s : State) (c : Chamber) (k : Option CrossClaim) : (s.setClaim c k).pending = s.pending := rfl
@[simp] theorem State.setClaim_drive (s : State) (c : Chamber) (k : Option CrossClaim) : (s.setClaim c k).drive = s.drive := rfl
@[simp] theorem State.setClaim_levels (s : State) (c : Chamber) (k : Option CrossClaim) : (s.setClaim c k).levels = s.levels := rfl
@[simp] theorem State.setClaim_seqs (s : State) (c : Chamber) (k : Option CrossClaim) : (s.setClaim c k).seqs = s.seqs := rfl
@[simp] theorem State.setClaim_cross (s : State) (c : Chamber) (k : Option CrossClaim) : (s.setClaim c k).cross =
    { s.cross with claims := s.cross.claims.set c k } := rfl
@[simp] theorem State.setClaim_heads (s : State) (c : Chamber) (k : Option CrossClaim) : (s.setClaim c k).heads = s.heads := rfl
@[simp] theorem State.setClaim_nextLampSample (s : State) (c : Chamber) (k : Option CrossClaim) : (s.setClaim c k).nextLampSample = s.nextLampSample := rfl
@[simp] theorem State.setClaim_samplesFrom (s : State) (c : Chamber) (k : Option CrossClaim) : (s.setClaim c k).samplesFrom = s.samplesFrom := rfl
@[simp] theorem State.setClaim_traffic (s : State) (c : Chamber) (k : Option CrossClaim) : (s.setClaim c k).traffic = s.traffic := rfl
@[simp] theorem State.setClaim_charge (s : State) (c : Chamber) (k : Option CrossClaim) : (s.setClaim c k).charge = s.charge := rfl
@[simp] theorem State.setClaim_acct (s : State) (c : Chamber) (k : Option CrossClaim) : (s.setClaim c k).acct = s.acct := rfl
@[simp] theorem State.setClaim_auth (s : State) (c : Chamber) (k : Option CrossClaim) : (s.setClaim c k).auth = s.auth := rfl
@[simp] theorem State.setClaim_links (s : State) (c : Chamber) (k : Option CrossClaim) : (s.setClaim c k).links = s.links := rfl
@[simp] theorem State.setClaim_start (s : State) (c : Chamber) (k : Option CrossClaim) : (s.setClaim c k).start = s.start := rfl
@[simp] theorem State.setClaim_event (s : State) (c : Chamber) (k : Option CrossClaim) : (s.setClaim c k).event = s.event := rfl

/-! ### modTraffic -/

@[simp] theorem State.modTraffic_now (s : State) (g : TrafficUnit → TrafficUnit) : (s.modTraffic g).now = s.now := rfl
@[simp] theorem State.modTraffic_pending (s : State) (g : TrafficUnit → TrafficUnit) : (s.modTraffic g).pending = s.pending := rfl
@[simp] theorem State.modTraffic_drive (s : State) (g : TrafficUnit → TrafficUnit) : (s.modTraffic g).drive = s.drive := rfl
@[simp] theorem State.modTraffic_levels (s : State) (g : TrafficUnit → TrafficUnit) : (s.modTraffic g).levels = s.levels := rfl
@[simp] theorem State.modTraffic_seqs (s : State) (g : TrafficUnit → TrafficUnit) : (s.modTraffic g).seqs = s.seqs := rfl
@[simp] theorem State.modTraffic_cross (s : State) (g : TrafficUnit → TrafficUnit) : (s.modTraffic g).cross = s.cross := rfl
@[simp] theorem State.modTraffic_heads (s : State) (g : TrafficUnit → TrafficUnit) : (s.modTraffic g).heads = s.heads := rfl
@[simp] theorem State.modTraffic_nextLampSample (s : State) (g : TrafficUnit → TrafficUnit) : (s.modTraffic g).nextLampSample = s.nextLampSample := rfl
@[simp] theorem State.modTraffic_samplesFrom (s : State) (g : TrafficUnit → TrafficUnit) : (s.modTraffic g).samplesFrom = s.samplesFrom := rfl
@[simp] theorem State.modTraffic_traffic (s : State) (g : TrafficUnit → TrafficUnit) : (s.modTraffic g).traffic =
    g s.traffic := rfl
@[simp] theorem State.modTraffic_charge (s : State) (g : TrafficUnit → TrafficUnit) : (s.modTraffic g).charge = s.charge := rfl
@[simp] theorem State.modTraffic_acct (s : State) (g : TrafficUnit → TrafficUnit) : (s.modTraffic g).acct = s.acct := rfl
@[simp] theorem State.modTraffic_auth (s : State) (g : TrafficUnit → TrafficUnit) : (s.modTraffic g).auth = s.auth := rfl
@[simp] theorem State.modTraffic_links (s : State) (g : TrafficUnit → TrafficUnit) : (s.modTraffic g).links = s.links := rfl
@[simp] theorem State.modTraffic_start (s : State) (g : TrafficUnit → TrafficUnit) : (s.modTraffic g).start = s.start := rfl
@[simp] theorem State.modTraffic_event (s : State) (g : TrafficUnit → TrafficUnit) : (s.modTraffic g).event = s.event := rfl

/-! ### modAcct -/

@[simp] theorem State.modAcct_now (s : State) (g : AccountingUnit → AccountingUnit) : (s.modAcct g).now = s.now := rfl
@[simp] theorem State.modAcct_pending (s : State) (g : AccountingUnit → AccountingUnit) : (s.modAcct g).pending = s.pending := rfl
@[simp] theorem State.modAcct_drive (s : State) (g : AccountingUnit → AccountingUnit) : (s.modAcct g).drive = s.drive := rfl
@[simp] theorem State.modAcct_levels (s : State) (g : AccountingUnit → AccountingUnit) : (s.modAcct g).levels = s.levels := rfl
@[simp] theorem State.modAcct_seqs (s : State) (g : AccountingUnit → AccountingUnit) : (s.modAcct g).seqs = s.seqs := rfl
@[simp] theorem State.modAcct_cross (s : State) (g : AccountingUnit → AccountingUnit) : (s.modAcct g).cross = s.cross := rfl
@[simp] theorem State.modAcct_heads (s : State) (g : AccountingUnit → AccountingUnit) : (s.modAcct g).heads = s.heads := rfl
@[simp] theorem State.modAcct_nextLampSample (s : State) (g : AccountingUnit → AccountingUnit) : (s.modAcct g).nextLampSample = s.nextLampSample := rfl
@[simp] theorem State.modAcct_samplesFrom (s : State) (g : AccountingUnit → AccountingUnit) : (s.modAcct g).samplesFrom = s.samplesFrom := rfl
@[simp] theorem State.modAcct_traffic (s : State) (g : AccountingUnit → AccountingUnit) : (s.modAcct g).traffic = s.traffic := rfl
@[simp] theorem State.modAcct_charge (s : State) (g : AccountingUnit → AccountingUnit) : (s.modAcct g).charge = s.charge := rfl
@[simp] theorem State.modAcct_acct (s : State) (g : AccountingUnit → AccountingUnit) : (s.modAcct g).acct =
    g s.acct := rfl
@[simp] theorem State.modAcct_auth (s : State) (g : AccountingUnit → AccountingUnit) : (s.modAcct g).auth = s.auth := rfl
@[simp] theorem State.modAcct_links (s : State) (g : AccountingUnit → AccountingUnit) : (s.modAcct g).links = s.links := rfl
@[simp] theorem State.modAcct_start (s : State) (g : AccountingUnit → AccountingUnit) : (s.modAcct g).start = s.start := rfl
@[simp] theorem State.modAcct_event (s : State) (g : AccountingUnit → AccountingUnit) : (s.modAcct g).event = s.event := rfl

/-! ### modEvent -/

@[simp] theorem State.modEvent_now (s : State) (g : Event → Event) : (s.modEvent g).now = s.now := rfl
@[simp] theorem State.modEvent_pending (s : State) (g : Event → Event) : (s.modEvent g).pending = s.pending := rfl
@[simp] theorem State.modEvent_drive (s : State) (g : Event → Event) : (s.modEvent g).drive = s.drive := rfl
@[simp] theorem State.modEvent_levels (s : State) (g : Event → Event) : (s.modEvent g).levels = s.levels := rfl
@[simp] theorem State.modEvent_seqs (s : State) (g : Event → Event) : (s.modEvent g).seqs = s.seqs := rfl
@[simp] theorem State.modEvent_cross (s : State) (g : Event → Event) : (s.modEvent g).cross = s.cross := rfl
@[simp] theorem State.modEvent_heads (s : State) (g : Event → Event) : (s.modEvent g).heads = s.heads := rfl
@[simp] theorem State.modEvent_nextLampSample (s : State) (g : Event → Event) : (s.modEvent g).nextLampSample = s.nextLampSample := rfl
@[simp] theorem State.modEvent_samplesFrom (s : State) (g : Event → Event) : (s.modEvent g).samplesFrom = s.samplesFrom := rfl
@[simp] theorem State.modEvent_traffic (s : State) (g : Event → Event) : (s.modEvent g).traffic = s.traffic := rfl
@[simp] theorem State.modEvent_charge (s : State) (g : Event → Event) : (s.modEvent g).charge = s.charge := rfl
@[simp] theorem State.modEvent_acct (s : State) (g : Event → Event) : (s.modEvent g).acct = s.acct := rfl
@[simp] theorem State.modEvent_auth (s : State) (g : Event → Event) : (s.modEvent g).auth = s.auth := rfl
@[simp] theorem State.modEvent_links (s : State) (g : Event → Event) : (s.modEvent g).links = s.links := rfl
@[simp] theorem State.modEvent_start (s : State) (g : Event → Event) : (s.modEvent g).start = s.start := rfl
@[simp] theorem State.modEvent_event (s : State) (g : Event → Event) : (s.modEvent g).event =
    g s.event := rfl

/-! ### produce -/

@[simp] theorem State.produce_now (s : State) (p : Produced) : (s.produce p).now = s.now := rfl
@[simp] theorem State.produce_pending (s : State) (p : Produced) : (s.produce p).pending = s.pending := rfl
@[simp] theorem State.produce_drive (s : State) (p : Produced) : (s.produce p).drive = s.drive := rfl
@[simp] theorem State.produce_levels (s : State) (p : Produced) : (s.produce p).levels = s.levels := rfl
@[simp] theorem State.produce_seqs (s : State) (p : Produced) : (s.produce p).seqs = s.seqs := rfl
@[simp] theorem State.produce_cross (s : State) (p : Produced) : (s.produce p).cross = s.cross := rfl
@[simp] theorem State.produce_heads (s : State) (p : Produced) : (s.produce p).heads = s.heads := rfl
@[simp] theorem State.produce_nextLampSample (s : State) (p : Produced) : (s.produce p).nextLampSample = s.nextLampSample := rfl
@[simp] theorem State.produce_samplesFrom (s : State) (p : Produced) : (s.produce p).samplesFrom = s.samplesFrom := rfl
@[simp] theorem State.produce_traffic (s : State) (p : Produced) : (s.produce p).traffic = s.traffic := rfl
@[simp] theorem State.produce_charge (s : State) (p : Produced) : (s.produce p).charge = s.charge := rfl
@[simp] theorem State.produce_acct (s : State) (p : Produced) : (s.produce p).acct = s.acct := rfl
@[simp] theorem State.produce_auth (s : State) (p : Produced) : (s.produce p).auth = s.auth := rfl
@[simp] theorem State.produce_links (s : State) (p : Produced) : (s.produce p).links = s.links := rfl
@[simp] theorem State.produce_start (s : State) (p : Produced) : (s.produce p).start = s.start := rfl

/-! ### report -/

@[simp] theorem State.report_now (s : State) (r : Report) : (s.report r).now = s.now := rfl
@[simp] theorem State.report_pending (s : State) (r : Report) : (s.report r).pending = s.pending := rfl
@[simp] theorem State.report_drive (s : State) (r : Report) : (s.report r).drive = s.drive := rfl
@[simp] theorem State.report_levels (s : State) (r : Report) : (s.report r).levels = s.levels := rfl
@[simp] theorem State.report_seqs (s : State) (r : Report) : (s.report r).seqs = s.seqs := rfl
@[simp] theorem State.report_cross (s : State) (r : Report) : (s.report r).cross = s.cross := rfl
@[simp] theorem State.report_heads (s : State) (r : Report) : (s.report r).heads = s.heads := rfl
@[simp] theorem State.report_nextLampSample (s : State) (r : Report) : (s.report r).nextLampSample = s.nextLampSample := rfl
@[simp] theorem State.report_samplesFrom (s : State) (r : Report) : (s.report r).samplesFrom = s.samplesFrom := rfl
@[simp] theorem State.report_traffic (s : State) (r : Report) : (s.report r).traffic = s.traffic := rfl
@[simp] theorem State.report_charge (s : State) (r : Report) : (s.report r).charge = s.charge := rfl
@[simp] theorem State.report_acct (s : State) (r : Report) : (s.report r).acct = s.acct := rfl
@[simp] theorem State.report_auth (s : State) (r : Report) : (s.report r).auth = s.auth := rfl
@[simp] theorem State.report_links (s : State) (r : Report) : (s.report r).links = s.links := rfl
@[simp] theorem State.report_start (s : State) (r : Report) : (s.report r).start = s.start := rfl

end Sys2Proof.Machine
end

