-- ==== Sys2Proof/Laws/Skeleton.lean ====
section
/-! SUPPORT. What the operations of the blocks leave unchanged: the skeleton of the state (Safety.lean). -/

namespace Sys2Proof.Machine

/-! ### Updates of one record -/

@[simp] theorem modEvent_skeleton (s : State) (g : Event → Event) : (s.modEvent g).skeleton = s.skeleton := rfl
@[simp] theorem produce_skeleton (s : State) (p : Produced) : (s.produce p).skeleton = s.skeleton := rfl
@[simp] theorem report_skeleton (s : State) (r : Report) : (s.report r).skeleton = s.skeleton := rfl
@[simp] theorem setAuth_skeleton (s : State) (c : Chamber) (a : Authority) : (s.setAuth c a).skeleton = s.skeleton := rfl
@[simp] theorem setClaim_skeleton (s : State) (c : Chamber) (k : Option CrossClaim) :
    (s.setClaim c k).skeleton = s.skeleton := rfl

@[simp] theorem modSeq_skeleton (s : State) (c : Chamber) (g : Sequencer → Sequencer) (h : ∀ q, (g q).stepMode = q.stepMode) :
    (s.modSeq c g).skeleton = s.skeleton := by
  cases c <;> simp [State.skeleton, State.modSeq, PerChamber.map, PerChamber.set, PerChamber.get, h]

@[simp] theorem modLockage_skeleton (s : State) (c : Chamber) (g : LockageRecord → LockageRecord) :
    (s.modLockage c g).skeleton = s.skeleton := modSeq_skeleton _ _ _ fun _ => rfl

theorem modTraffic_skeleton (s : State) (g : TrafficUnit → TrafficUnit) (h : (g s.traffic).admission = s.traffic.admission) :
    (s.modTraffic g).skeleton = s.skeleton := by
  simp [State.skeleton, State.modTraffic, h]

/-- Two accounting units that differ only in what reactions may write. -/
def AccountingUnit.sameStill (u v : AccountingUnit) : Prop :=
  u.accounts.map Account.still = v.accounts.map Account.still ∧ u.period = v.period ∧ u.image = v.image

theorem modAcct_skeleton (s : State) (g : AccountingUnit → AccountingUnit) (h : (g s.acct).sameStill s.acct) :
    (s.modAcct g).skeleton = s.skeleton := by
  obtain ⟨h1, h2, h3⟩ := h
  simp [State.skeleton, State.modAcct, h1, h2, h3]

theorem PerDevice.map_set {α β : Type} (g : α → β) (p : PerDevice α) (d : Device) (v : α) :
    (p.set d v).map g = (p.map g).set d (g v) := by
  rcases d with ⟨c, e⟩ | ⟨c, e⟩ | _ <;> first | rfl | (cases c <;> cases e <;> rfl)

theorem PerDevice.map_get {α β : Type} (g : α → β) (p : PerDevice α) (d : Device) : (p.map g).get d = g (p.get d) := by
  rcases d with ⟨c, e⟩ | ⟨c, e⟩ | _ <;> first | rfl | (cases c <;> cases e <;> rfl)

theorem setDev_skeleton (s : State) (d : Device) (r : DeviceRecord) (h : r.still = (s.dev d).still) :
    (s.setDev d r).skeleton = s.skeleton := by
  have : (s.drive.devices.set d r).map DeviceRecord.still = s.drive.devices.map DeviceRecord.still := by
    rw [PerDevice.map_set, h]
    show (s.drive.devices.map _).set d ((s.drive.devices.get d).still) = _
    rw [← PerDevice.map_get DeviceRecord.still, Sys2Proof.PerDevice.set_get]
  simp [State.skeleton, State.setDev, this]

@[simp] theorem setDev_dev_self (s : State) (d : Device) (r : DeviceRecord) : (s.setDev d r).dev d = r := by
  simp [State.dev, State.setDev]

theorem setDev_dev_ne (s : State) {d x : Device} (r : DeviceRecord) (h : x ≠ d) : (s.setDev d r).dev x = s.dev x := by
  simp [State.dev, State.setDev, h]

theorem stampClosed_id (s : State) (d : Device) (was : Bool) (h : s.confirmedClosed d = was) : s.stampClosed d was = s := by
  subst h
  simp [State.stampClosed]

/-- A rewrite of a device record that leaves its reported end is a plain rewrite: no last-closed time is stamped. -/
theorem updDev_eq_setDev (s : State) (d : Device) (g : DeviceRecord → DeviceRecord)
    (h : (g (s.dev d)).reportedEnd = (s.dev d).reportedEnd) : s.updDev d g = s.setDev d (g (s.dev d)) := by
  apply stampClosed_id
  simp only [State.confirmedClosed, setDev_dev_self, h]
  rfl

theorem updDev_skeleton (s : State) (d : Device) (g : DeviceRecord → DeviceRecord)
    (h : (g (s.dev d)).still = (s.dev d).still) : (s.updDev d g).skeleton = s.skeleton := by
  rw [updDev_eq_setDev s d g (congrArg (fun r => r.reportedEnd) h : (g (s.dev d)).still.reportedEnd = _)]
  exact setDev_skeleton s d _ h

theorem foldl_skeleton {α : Type} (g : State → α → State) (h : ∀ s x, (g s x).skeleton = s.skeleton) (l : List α)
    (s : State) : (l.foldl g s).skeleton = s.skeleton := by
  induction l generalizing s with
  | nil => rfl
  | cons x l ih => rw [List.foldl_cons, ih, h]

/-! ### Requests to devices -/

@[simp] theorem startRequest_skeleton (s : State) (d : Device) (t : Target) : (s.startRequest d t).skeleton = s.skeleton := by
  unfold State.startRequest
  dsimp only
  split_ifs <;> first | rfl | exact updDev_skeleton _ _ _ rfl

@[simp] theorem stopRequest_skeleton (s : State) (d : Device) : (s.stopRequest d).skeleton = s.skeleton := by
  unfold State.stopRequest
  split_ifs <;> first | rfl | exact updDev_skeleton _ _ _ rfl

@[simp] theorem stopChamber_skeleton (s : State) (c : Chamber) : (s.stopChamber c).skeleton = s.skeleton :=
  foldl_skeleton _ stopRequest_skeleton _ _

@[simp] theorem stopMoving_skeleton (s : State) (d : Device) : (s.stopMoving d).skeleton = s.skeleton := by
  unfold State.stopMoving
  dsimp only
  split_ifs <;> simp

theorem withdrawn_still (r : DeviceRecord) : r.withdrawn.still = r.still := by
  unfold DeviceRecord.withdrawn
  split_ifs <;> rfl

@[simp] theorem barOrder_skeleton (s : State) (c : Chamber) : (s.barOrder c).skeleton = s.skeleton := by
  unfold State.barOrder
  refine Eq.trans (b := (c.devices.foldl State.stopMoving
    (c.devices.foldl (fun s d => s.updDev d DeviceRecord.withdrawn) s)).skeleton) rfl ?_
  rw [foldl_skeleton _ stopMoving_skeleton,
    foldl_skeleton _ fun s d => updDev_skeleton s d _ (withdrawn_still _)]

/-! ### Accounts and charges -/

@[simp] theorem journalLowCheck_skeleton (s : State) : s.journalLowCheck.skeleton = s.skeleton := by
  unfold State.journalLowCheck
  split_ifs <;> rfl

theorem reserve_skeleton {s t : State} {b : Bool} (h : s.reserve? b = some t) : t.skeleton = s.skeleton := by
  unfold State.reserve? at h
  split_ifs at h <;> cases h <;> exact (journalLowCheck_skeleton _).trans (modAcct_skeleton _ _ ⟨rfl, rfl, rfl⟩)

theorem charge_sameStill (u : AccountingUnit) (n amount : Nat) (counted : Bool) (t : LockTime) :
    (u.charge n amount counted t).sameStill u := by
  refine ⟨List.ext_getElem? fun i => ?_, rfl, rfl⟩
  simp only [AccountingUnit.charge, List.getElem?_map, List.getElem?_modify]
  cases u.accounts[i]? <;> simp
  split_ifs <;> rfl

theorem AccountingUnit.sameStill.trans {u v w : AccountingUnit} (h : u.sameStill v) (k : v.sameStill w) : u.sameStill w :=
  ⟨h.1.trans k.1, h.2.1.trans k.2.1, h.2.2.trans k.2.2⟩

theorem chargeEntry_sameStill (t : LockTime) (u : AccountingUnit) (e : ChargeEntry) :
    (AccountingUnit.chargeEntry t u e).sameStill u := by
  unfold AccountingUnit.chargeEntry
  split_ifs
  · exact ⟨rfl, rfl, rfl⟩
  · exact charge_sameStill _ _ _ _ _

theorem chargeEntries_sameStill (t : LockTime) (es : List ChargeEntry) (u : AccountingUnit) :
    (es.foldl (AccountingUnit.chargeEntry t) u).sameStill u := by
  induction es generalizing u with
  | nil => exact ⟨rfl, rfl, rfl⟩
  | cons e es ih => exact (ih _).trans (chargeEntry_sameStill t u e)

theorem post_sameStill (u : AccountingUnit) (r : ChargeRecord) : (u.post r).sameStill u :=
  (charge_sameStill _ _ _ _ _).trans ((chargeEntries_sameStill _ _ _).trans ⟨rfl, rfl, rfl⟩)

@[simp] theorem post_skeleton (s : State) (r : ChargeRecord) : (s.post r).skeleton = s.skeleton := by
  unfold State.post
  simp [modAcct_skeleton s (fun u => u.post r) (post_sameStill s.acct r)]

@[simp] theorem finalize_skeleton (s : State) (c : Chamber) : (s.finalize c).skeleton = s.skeleton := by
  unfold State.finalize
  split
  · rfl
  · split_ifs <;> simp

@[simp] theorem release_skeleton (s : State) : (s.modAcct AccountingUnit.release).skeleton = s.skeleton :=
  modAcct_skeleton _ _ ⟨rfl, rfl, rfl⟩

/-! ### Vessels -/

@[simp] theorem addRecord_skeleton (s : State) (v : Vessel) : (s.addRecord v).skeleton = s.skeleton := rfl
@[simp] theorem modVessel_skeleton (s : State) (h : Nat) (g : Vessel → Vessel) : (s.modVessel h g).skeleton = s.skeleton := rfl
@[simp] theorem enqueue_skeleton (s : State) (v : Vessel) : (s.enqueue v).skeleton = s.skeleton := rfl
@[simp] theorem dequeue_skeleton (s : State) (h : Nat) : (s.dequeue h).skeleton = s.skeleton := rfl
@[simp] theorem returnVessel_skeleton (s : State) (v : Vessel) : (s.returnVessel v).skeleton = s.skeleton := rfl
@[simp] theorem deleteVessel_skeleton (s : State) (h : Nat) : (s.deleteVessel h).skeleton = s.skeleton := rfl
@[simp] theorem setStack_skeleton (s : State) (c : Chamber) (l : List SavedPlan) : (s.setStack c l).skeleton = s.skeleton := rfl
@[simp] theorem unsave_skeleton (s : State) (c : Chamber) (h : Nat) : (s.unsave c h).skeleton = s.skeleton := rfl
@[simp] theorem saveOne_skeleton (c : Chamber) (s : State) (h : Nat) : (State.saveOne c s h).skeleton = s.skeleton := rfl
@[simp] theorem board_skeleton (c : Chamber) (s : State) (h : Nat) : (State.board c s h).skeleton = s.skeleton := rfl
@[simp] theorem defer_skeleton (s : State) (v : Vessel) (r : Deferral) : (s.defer v r).skeleton = s.skeleton := rfl

theorem recordSpace_skeleton {s t : State} {c : Chamber} {l : LockageRecord} {k : VesselClass}
    (h : s.recordSpace? c l k = some t) : t.skeleton = s.skeleton := by
  unfold State.recordSpace? at h
  split at h
  · cases h; rfl
  · obtain ⟨u, hu, rfl⟩ := Option.map_eq_some_iff.mp h
    simp [reserve_skeleton hu]

@[simp] theorem takeVessel_skeleton (s : State) (c : Chamber) (v : Vessel) : (s.takeVessel c v).skeleton = s.skeleton := by
  unfold State.takeVessel
  simp

theorem tryTake_skeleton {s t : State} {c : Chamber} {v : Vessel} (h : s.tryTake c v = .taken t) :
    t.skeleton = s.skeleton := by
  unfold State.tryTake at h
  split at h
  · cases h
  · split at h
    · cases h
    · split at h
      · cases h
      · next hr => cases h; simp [recordSpace_skeleton hr]

@[simp] theorem walkOne_skeleton (c : Chamber) (s : State) (h : Nat) : (State.walkOne c s h).skeleton = s.skeleton := by
  unfold State.walkOne
  split
  · rfl
  · split
    · next ht => exact tryTake_skeleton ht
    · rfl

@[simp] theorem recheckOne_skeleton (c : Chamber) (s : State) (h : Nat) :
    (State.recheckOne c s h).skeleton = s.skeleton := by
  unfold State.recheckOne
  split
  · rfl
  · split
    · next ht => exact tryTake_skeleton ht
    · rfl

@[simp] theorem formPlan_skeleton (s : State) (c : Chamber) (d : Direction) (l : List Nat) :
    (s.formPlan c d l).skeleton = s.skeleton := by
  unfold State.formPlan State.walk
  rw [foldl_skeleton _ (walkOne_skeleton c), foldl_skeleton _ (recheckOne_skeleton c)]

@[simp] theorem releaseReservation_skeleton (s : State) (c : Chamber) : (s.releaseReservation c).skeleton = s.skeleton := by
  unfold State.releaseReservation
  split
  · rfl
  · split_ifs <;> simp

@[simp] theorem leavePlan_skeleton (s : State) (c : Chamber) (v : Vessel) : (s.leavePlan c v).skeleton = s.skeleton := by
  unfold State.leavePlan
  simp

@[simp] theorem releaseIfEmpty_skeleton (s : State) (c : Chamber) : (s.releaseIfEmpty c).skeleton = s.skeleton := by
  unfold State.releaseIfEmpty
  split
  · split_ifs <;> simp
  · rfl

@[simp] theorem giveBack_skeleton (c : Chamber) (s : State) (h : Nat) : (State.giveBack c s h).skeleton = s.skeleton := by
  unfold State.giveBack
  split <;> simp

@[simp] theorem closeList_skeleton (s : State) (c : Chamber) (l : List Nat) : (s.closeList c l).skeleton = s.skeleton := by
  unfold State.closeList
  simp only [modLockage_skeleton]
  rw [foldl_skeleton _ (board_skeleton c), releaseIfEmpty_skeleton, foldl_skeleton _ (giveBack_skeleton c)]

@[simp] theorem deletePlan_skeleton (s : State) (c : Chamber) : (s.deletePlan c).skeleton = s.skeleton :=
  foldl_skeleton _ deleteVessel_skeleton _ _

@[simp] theorem abandonOne_skeleton (c : Chamber) (s : State) (h : Nat) : (State.abandonOne c s h).skeleton = s.skeleton := by
  unfold State.abandonOne
  split
  · rfl
  · split_ifs <;> simp

@[simp] theorem abandonPlan_skeleton (s : State) (c : Chamber) : (s.abandonPlan c).skeleton = s.skeleton :=
  foldl_skeleton _ (abandonOne_skeleton c) _ _

@[simp] theorem pushPlan_skeleton (s : State) (c : Chamber) (l : LockageRecord) : (s.pushPlan c l).skeleton = s.skeleton := by
  unfold State.pushPlan
  dsimp only
  split_ifs
  · rfl
  · rw [setStack_skeleton, foldl_skeleton _ (saveOne_skeleton c)]

/-! ### The sequencer -/

/-- A rewrite of the sequencers that leaves the step modes. -/
theorem seqs_skeleton (s : State) (q : PerChamber Sequencer) (k : CrossArbiter)
    (h : ∀ c, (q.get c).stepMode = (s.seqs.get c).stepMode) : ({ s with seqs := q, cross := k } : State).skeleton = s.skeleton := by
  have ha := h .A
  have hb := h .B
  simp only [PerChamber.get] at ha hb
  simp [State.skeleton, PerChamber.map, ha, hb]

@[simp] theorem endExchange_skeleton (s : State) : s.endExchange.skeleton = s.skeleton := by
  unfold State.endExchange
  simp only [startRequest_skeleton]
  exact seqs_skeleton s _ _ fun c => by cases c <;> rfl

@[simp] theorem withdrawClaim_skeleton (s : State) (c : Chamber) : (s.withdrawClaim c).skeleton = s.skeleton := by
  unfold State.withdrawClaim
  dsimp only
  split_ifs <;> simp

@[simp] theorem keepClaim_skeleton (s : State) (c : Chamber) (n : Need) : (s.keepClaim c n).skeleton = s.skeleton := rfl

@[simp] theorem raise_skeleton (s : State) (c : Chamber) (k : FaultKind) (d : Option Device) :
    (s.raise c k d).skeleton = s.skeleton := rfl

@[simp] theorem levelLostCheck_skeleton (s : State) (c : Chamber) : (s.levelLostCheck c).skeleton = s.skeleton := by
  unfold State.levelLostCheck
  split_ifs <;> simp

@[simp] theorem raiseStanding_skeleton (s : State) (c : Chamber) (d : Device) : (s.raiseStanding c d).skeleton = s.skeleton := by
  unfold State.raiseStanding
  split <;> rfl

@[simp] theorem standingCheck_skeleton (s : State) (c : Chamber) : (s.standingCheck c).skeleton = s.skeleton :=
  foldl_skeleton _ (fun s d => raiseStanding_skeleton s c d) _ _

@[simp] theorem levelSettings_skeleton (s : State) (c : Chamber) (e : End) : (s.levelSettings c e).skeleton = s.skeleton :=
  modSeq_skeleton _ _ _ fun _ => rfl

@[simp] theorem entrySettings_skeleton (s : State) (c : Chamber) (p : Phase) : (s.entrySettings c p).skeleton = s.skeleton := by
  unfold State.entrySettings
  split
  · rfl
  · split
    · simp
    · simp
    · dsimp only
      split_ifs <;> simp
    · rfl

@[simp] theorem changePhase_skeleton (s : State) (c : Chamber) (p : Phase) : (s.changePhase c p).skeleton = s.skeleton := by
  unfold State.changePhase
  simp

@[simp] theorem enterPlain_skeleton (s : State) (c : Chamber) (p : Phase) : (s.enterPlain c p).skeleton = s.skeleton := by
  unfold State.enterPlain
  simp

@[simp] theorem enterPhase_skeleton (s : State) (c : Chamber) (p : Phase) : (s.enterPhase c p).skeleton = s.skeleton := by
  unfold State.enterPhase
  split_ifs
  · dsimp only
    split <;> simp
  · simp

@[simp] theorem enterForming_skeleton (s : State) (c : Chamber) (d : Direction) (l : List Nat) :
    (s.enterForming c d l).skeleton = s.skeleton := by
  unfold State.enterForming
  simp only [formPlan_skeleton]
  rw [modSeq_skeleton _ _ _ (by simp), changePhase_skeleton]
  exact modAcct_skeleton _ _ ⟨rfl, rfl, rfl⟩

@[simp] theorem enterIdle_skeleton (s : State) (c : Chamber) : (s.enterIdle c).skeleton = s.skeleton := by
  unfold State.enterIdle
  dsimp only
  split <;> simp

@[simp] theorem advancePhase_skeleton (s : State) (c : Chamber) (p : Phase) : (s.advancePhase c p).skeleton = s.skeleton := by
  unfold State.advancePhase
  split_ifs <;> simp

@[simp] theorem levelOnset_skeleton (s : State) (c : Chamber) : (s.levelOnset c).skeleton = s.skeleton := by
  unfold State.levelOnset
  dsimp only
  split_ifs <;> simp

@[simp] theorem leaveFor_skeleton (s : State) (c : Chamber) (p : Phase) : (s.leaveFor c p).skeleton = s.skeleton := by
  unfold State.leaveFor
  dsimp only
  split_ifs <;> simp

@[simp] theorem holdStops_skeleton (s : State) (c : Chamber) (r : HoldReason) : (s.holdStops c r).skeleton = s.skeleton := by
  unfold State.holdStops
  split_ifs <;> simp

@[simp] theorem enterHold_skeleton (s : State) (c : Chamber) (r : HoldReason) : (s.enterHold c r).skeleton = s.skeleton := by
  unfold State.enterHold
  simp

@[simp] theorem addReason_skeleton (s : State) (c : Chamber) (r : HoldReason) : (s.addReason c r).skeleton = s.skeleton := by
  unfold State.addReason
  simp

@[simp] theorem holdOrder_skeleton (s : State) (c : Chamber) (r : HoldReason) : (s.holdOrder c r).skeleton = s.skeleton := by
  unfold State.holdOrder
  split <;> try simp
  split_ifs <;> simp

@[simp] theorem clearStepWait_skeleton (s : State) (c : Chamber) : (s.clearStepWait c).skeleton = s.skeleton :=
  modSeq_skeleton _ _ _ fun _ => rfl

@[simp] theorem setStepWait_skeleton (s : State) (c : Chamber) (d : Device) (t : Target) :
    (s.setStepWait c d t).skeleton = s.skeleton := by
  unfold State.setStepWait
  simp

@[simp] theorem makeRequest_skeleton (s : State) (c : Chamber) (d : Device) (t : Target) :
    (s.makeRequest c d t).skeleton = s.skeleton := by
  unfold State.makeRequest State.markStart
  split_ifs <;> simp

@[simp] theorem releaseStep_skeleton (s : State) (c : Chamber) : (s.releaseStep c).skeleton = s.skeleton := by
  unfold State.releaseStep
  split <;> simp

/-! ### Faults -/

@[simp] theorem safeSluice_skeleton (s : State) (c : Chamber) (e : End) : (s.safeSluice c e).skeleton = s.skeleton := by
  unfold State.safeSluice
  dsimp only
  split_ifs <;> simp

@[simp] theorem safingRequests_skeleton (s : State) (c : Chamber) : (s.safingRequests c).skeleton = s.skeleton := by
  unfold State.safingRequests State.safeGate
  simp

@[simp] theorem endSafing_skeleton (s : State) (c : Chamber) : (s.endSafing c).skeleton = s.skeleton := by
  unfold State.endSafing
  simp

@[simp] theorem enterSafing_skeleton (s : State) (c : Chamber) : (s.enterSafing c).skeleton = s.skeleton := by
  unfold State.enterSafing
  dsimp only
  split_ifs <;> simp

@[simp] theorem lockOut_skeleton (s : State) (c : Chamber) : (s.lockOut c).skeleton = s.skeleton := by
  unfold State.lockOut
  simp

@[simp] theorem moveOnFault_skeleton (s : State) (c : Chamber) (k : FaultClass) : (s.moveOnFault c k).skeleton = s.skeleton := by
  unfold State.moveOnFault
  split_ifs
  · rfl
  · split <;> simp

@[simp] theorem takeFault_skeleton (s : State) (c : Chamber) (f : FaultEntry) : (s.takeFault c f).skeleton = s.skeleton := by
  unfold State.takeFault
  simp

@[simp] theorem takeConflict_skeleton (s : State) (c : Chamber) (f : FaultEntry) :
    (s.takeConflict c f).skeleton = s.skeleton := by
  unfold State.takeConflict
  split_ifs <;> simp

/-! ### The cross arbiter -/

@[simp] theorem releaseChamber_skeleton (s : State) (c : Chamber) : (s.release c).skeleton = s.skeleton := by
  unfold State.release
  split_ifs <;> simp

@[simp] theorem dropClaim_skeleton (s : State) (c : Chamber) : (s.dropClaim c).skeleton = s.skeleton := by
  unfold State.dropClaim
  simp

theorem cross_skeleton (s : State) (k : CrossArbiter) : ({ s with cross := k } : State).skeleton = s.skeleton := rfl

@[simp] theorem makeGrant_skeleton (s : State) (d : Chamber) : (s.makeGrant d).skeleton = s.skeleton := by
  unfold State.makeGrant
  simp only [startRequest_skeleton]
  rw [foldl_skeleton _ fun s c => modLockage_skeleton s c _, cross_skeleton]

@[simp] theorem exchangeOver_skeleton (s : State) : s.exchangeOver.skeleton = s.skeleton := by
  unfold State.exchangeOver
  split
  · rfl
  · dsimp only
    rw [foldl_skeleton _ releaseChamber_skeleton, cross_skeleton, foldl_skeleton _ fun s c => modLockage_skeleton s c _]

@[simp] theorem takeXv_skeleton (s : State) (k : FaultKind) (t : LockTime) (c : Chamber) :
    (s.takeXv k t c).skeleton = s.skeleton := by
  unfold State.takeXv
  split_ifs <;> simp

@[simp] theorem valveFaulted_skeleton (s : State) (k : FaultKind) (t : LockTime) : (s.valveFaulted k t).skeleton = s.skeleton := by
  unfold State.valveFaulted
  dsimp only
  split_ifs <;> simp [foldl_skeleton _ fun s c => takeXv_skeleton s k t c]

@[simp] theorem takeReport_skeleton (s : State) (r : Report) : (s.takeReport r).skeleton = s.skeleton := by
  unfold State.takeReport
  split <;> try simp
  split_ifs
  · exact foldl_skeleton _ (fun s c => takeXv_skeleton s _ _ c) _ _
  · rfl

/-! ### Emergency handling -/

theorem join_skeleton {s t : State} {c : Chamber} {v : Vessel} (h : s.join? c v = some t) : t.skeleton = s.skeleton := by
  unfold State.join? at h
  split_ifs at h
  split at h
  · next ht => cases h; exact tryTake_skeleton ht
  · cases h

theorem emergencyStart_skeleton {s t : State} {c : Chamber} {v : Vessel} (h : s.emergencyStart? c v = some t) :
    t.skeleton = s.skeleton := by
  unfold State.emergencyStart? at h
  split_ifs at h
  cases h
  simp

@[simp] theorem stopQueued_skeleton (s : State) (c : Chamber) : (s.stopQueued c).skeleton = s.skeleton := by
  refine foldl_skeleton _ (fun s d => ?_) _ _
  split_ifs <;> simp

theorem preempt_skeleton {s t : State} {c : Chamber} {v : Vessel} (h : s.preempt? c v = some t) :
    t.skeleton = s.skeleton := by
  unfold State.preempt? at h
  split at h
  · split_ifs at h
    cases h
    unfold State.preempt
    simp
  · cases h

theorem wayAt_skeleton {s t : State} {v : Vessel} {w : Way} {c : Chamber} (h : s.wayAt? v w c = some t) :
    t.skeleton = s.skeleton := by
  cases w with
  | join => exact join_skeleton h
  | start => exact emergencyStart_skeleton h
  | preempt => exact preempt_skeleton h

/-- One try of emergency handling does nothing, or takes its way at its chamber for the WAITING EMERGENCY vessel (R132). -/
theorem tryWay_cases (w : Way) (h : Nat) (s : State) (c : Chamber) :
    State.tryWay w h s c = s ∨
      ∃ v, s.vessel? h = some v ∧ v.state = .waiting ∧ v.cls = .emergency ∧ s.wayAt? v w c = some (State.tryWay w h s c) := by
  unfold State.tryWay
  split
  · exact .inl rfl
  · next v hv =>
    split_ifs with hc
    · simp only [Bool.and_eq_true, decide_eq_true_eq] at hc
      cases hw : s.wayAt? v w c with
      | none => exact .inl rfl
      | some t => exact .inr ⟨v, hv, hc.1, hc.2, hw⟩
    · exact .inl rfl

@[simp] theorem tryWay_skeleton (w : Way) (h : Nat) (s : State) (c : Chamber) :
    (State.tryWay w h s c).skeleton = s.skeleton := by
  rcases tryWay_cases w h s c with h | ⟨v, -, -, -, h⟩
  · rw [h]
  · exact wayAt_skeleton h

@[simp] theorem handleEmergency_skeleton (s : State) (h : Nat) : (s.handleEmergency h).skeleton = s.skeleton :=
  foldl_skeleton _ (fun s w => foldl_skeleton _ (tryWay_skeleton w h) _ s) _ s

@[simp] theorem handleAllEmergencies_skeleton (s : State) : s.handleAllEmergencies.skeleton = s.skeleton :=
  foldl_skeleton _ handleEmergency_skeleton _ _

/-! ### Authority -/

@[simp] theorem changeAuthority_skeleton (s : State) (c : Chamber) (a : Authority) (k : AuthorityCause) :
    (s.changeAuthority c a k).skeleton = s.skeleton := by
  unfold State.changeAuthority
  split_ifs <;> rfl

@[simp] theorem gained_skeleton (s : State) (c : Chamber) : (s.gained c).skeleton = s.skeleton :=
  modSeq_skeleton _ _ _ fun _ => rfl

@[simp] theorem lost_skeleton (s : State) (c : Chamber) : (s.lost c).skeleton = s.skeleton := by
  unfold State.lost
  split_ifs <;> simp

@[simp] theorem loseHolder_skeleton (s : State) (c : Chamber) (k : AuthorityCause) : (s.loseHolder c k).skeleton = s.skeleton := by
  unfold State.loseHolder
  simp

@[simp] theorem gainHolder_skeleton (s : State) (c : Chamber) (o : Operator) (k : AuthorityCause) :
    (s.gainHolder c o k).skeleton = s.skeleton := by
  unfold State.gainHolder
  simp

@[simp] theorem handOver_skeleton (s : State) (c : Chamber) (o : Operator) : (s.handOver c o).skeleton = s.skeleton :=
  changeAuthority_skeleton _ _ _ _

@[simp] theorem claimBy_skeleton (s : State) (c : Chamber) (o : Operator) : (s.claimBy c o).skeleton = s.skeleton := by
  unfold State.claimBy
  dsimp only
  split
  · simp
  · split_ifs <;> simp

@[simp] theorem releaseByHolder_skeleton (s : State) (c : Chamber) : (s.releaseByHolder c).skeleton = s.skeleton := by
  unfold State.releaseByHolder
  dsimp only
  split
  · simp
  · split_ifs <;> simp

@[simp] theorem dropPending_skeleton (s : State) (c : Chamber) (k : AuthorityCause) : (s.dropPending c k).skeleton = s.skeleton := by
  unfold State.dropPending
  dsimp only
  split_ifs <;> simp

theorem releaseBy_skeleton {s t : State} {c : Chamber} {o : Operator} (h : s.releaseBy? c o = some t) :
    t.skeleton = s.skeleton := by
  unfold State.releaseBy? at h
  dsimp only at h
  split_ifs at h <;> cases h <;> simp

@[simp] theorem seizeBy_skeleton (s : State) (c : Chamber) : (s.seizeBy c).skeleton = s.skeleton := by
  unfold State.seizeBy
  dsimp only
  split_ifs <;> simp

@[simp] theorem holderSilent_skeleton (s : State) (c : Chamber) : (s.holderSilent c).skeleton = s.skeleton := by
  unfold State.holderSilent
  dsimp only
  split <;> simp

/-! ### Reactions -/

@[simp] theorem strayClose_skeleton (s : State) (d : Device) : (s.strayClose d).skeleton = s.skeleton := by
  unfold State.strayClose
  split_ifs <;> simp

theorem stage_skeleton (s : State) (x : Stage) : ({ s with start := { s.start with stage := x } } : State).skeleton = s.skeleton :=
  rfl

@[simp] theorem endStartUp_skeleton (s : State) : s.endStartUp.skeleton = s.skeleton := by
  unfold State.endStartUp
  simp only [produce_skeleton, handleAllEmergencies_skeleton, stage_skeleton]
  exact foldl_skeleton _ strayClose_skeleton _ _

theorem stepTest_skeleton {s t : State} {c : Chamber} (h : s.stepTest? c = some t) : t.skeleton = s.skeleton := by
  unfold State.stepTest? at h
  split at h
  · obtain ⟨x, -, rfl⟩ := Option.map_eq_some_iff.mp h
    simp
  · split at h
    · cases h; simp
    · split_ifs at h
      cases h; simp

theorem requestTest_skeleton {s t : State} {c : Chamber} (h : s.requestTest? c = some t) : t.skeleton = s.skeleton := by
  unfold State.requestTest? at h
  split at h
  · obtain ⟨x, -, rfl⟩ := Option.map_eq_some_iff.mp h
    simp
  · exact stepTest_skeleton h

theorem levelReturn_skeleton {s t : State} {c : Chamber} (h : s.levelReturn? c = some t) : t.skeleton = s.skeleton := by
  unfold State.levelReturn? at h
  split at h
  · split_ifs at h
    cases h
    simp
  · cases h

theorem workTest_skeleton {s t : State} {c : Chamber} (h : s.workTest? c = some t) : t.skeleton = s.skeleton := by
  unfold State.workTest? at h
  split_ifs at h
  split at h
  · cases h; simp
  · rcases Option.or_eq_some_iff.mp h with h | ⟨-, h⟩
    · exact levelReturn_skeleton h
    · exact requestTest_skeleton h

theorem handOver_step_skeleton {s t : State} {c : Chamber} (h : s.handOver? c = some t) : t.skeleton = s.skeleton := by
  unfold State.handOver? at h
  dsimp only at h
  split at h
  · split_ifs at h
    cases h; simp
  · cases h

theorem reasonStep_skeleton {s t : State} {c : Chamber} (h : s.reasonStep? c = some t) : t.skeleton = s.skeleton := by
  unfold State.reasonStep? at h
  split_ifs at h <;> cases h <;> simp

theorem safingStep_skeleton {s t : State} {c : Chamber} (h : s.safingStep? c = some t) : t.skeleton = s.skeleton := by
  unfold State.safingStep? at h
  split_ifs at h <;> cases h <;> simp

theorem valveClosedStep_skeleton {s t : State} (h : s.valveClosedStep? = some t) : t.skeleton = s.skeleton := by
  unfold State.valveClosedStep? at h
  dsimp only at h
  split_ifs at h <;> cases h <;> simp

/-- The reactions, one by one (log 6): what a single reaction can be. -/
theorem react_cases {s t : State} (h : s.react? = some t) :
    s.reportStep? = some t ∨ s.startUpStep? = some t ∨ s.valveClosedStep? = some t ∨ s.grantStep? = some t ∨
      s.watchStep? = some t ∨
      ∃ c, s.handOver? c = some t ∨ s.reasonStep? c = some t ∨ s.safingStep? c = some t ∨ s.onsetStep? c = some t ∨
        s.workTest? c = some t := by
  obtain ⟨x, hx, rfl⟩ := List.exists_of_findSome?_eq_some h
  simp only [List.mem_cons, List.not_mem_nil, or_false] at hx
  rcases hx with hx | hx | hx | hx | hx | hx | hx | hx | hx | hx | hx | hx | hx | hx | hx
  · exact .inl hx.symm
  · exact .inr (.inl hx.symm)
  · exact .inr (.inr (.inr (.inr (.inr ⟨.A, .inl hx.symm⟩))))
  · exact .inr (.inr (.inr (.inr (.inr ⟨.B, .inl hx.symm⟩))))
  · exact .inr (.inr (.inl hx.symm))
  · exact .inr (.inr (.inr (.inr (.inr ⟨.A, .inr (.inl hx.symm)⟩))))
  · exact .inr (.inr (.inr (.inr (.inr ⟨.B, .inr (.inl hx.symm)⟩))))
  · exact .inr (.inr (.inr (.inr (.inr ⟨.A, .inr (.inr (.inl hx.symm))⟩))))
  · exact .inr (.inr (.inr (.inr (.inr ⟨.B, .inr (.inr (.inl hx.symm))⟩))))
  · exact .inr (.inr (.inr (.inr (.inr ⟨.A, .inr (.inr (.inr (.inl hx.symm)))⟩))))
  · exact .inr (.inr (.inr (.inr (.inr ⟨.B, .inr (.inr (.inr (.inl hx.symm)))⟩))))
  · exact .inr (.inr (.inr (.inr (.inr ⟨.A, .inr (.inr (.inr (.inr hx.symm)))⟩))))
  · exact .inr (.inr (.inr (.inr (.inr ⟨.B, .inr (.inr (.inr (.inr hx.symm)))⟩))))
  · exact .inr (.inr (.inr (.inl hx.symm)))
  · exact .inr (.inr (.inr (.inr (.inl hx.symm))))

/-- What every single reaction keeps, the whole of them keeps. -/
theorem settle_induct (P : State → Prop) (step : ∀ s t, P s → s.react? = some t → P t) (s : State) (h : P s) :
    P s.settle := by
  suffices ∀ n s, P s → P (s.settleFor n) from this _ _ h
  intro n
  induction n with
  | zero => exact fun _ h => h
  | succ n ih =>
    intro s h
    unfold State.settleFor
    split
    · next hr => exact ih _ (step _ _ h hr)
    · exact h

theorem react_skeleton {s t : State} (h : s.react? = some t) : t.skeleton = s.skeleton := by
  rcases react_cases h with h | h | h | h | h | ⟨c, h | h | h | h | h⟩
  · unfold State.reportStep? at h
    split at h <;> cases h
    simp
  · unfold State.startUpStep? at h
    split at h
    · obtain rfl := Option.some.inj h
      exact endStartUp_skeleton s
    · cases h
  · exact valveClosedStep_skeleton h
  · obtain ⟨d, -, rfl⟩ := Option.map_eq_some_iff.mp h
    simp
  · unfold State.watchStep? at h
    split_ifs at h
    cases h; simp
  · exact handOver_step_skeleton h
  · exact reasonStep_skeleton h
  · exact safingStep_skeleton h
  · unfold State.onsetStep? at h
    split_ifs at h
    cases h; simp
  · exact workTest_skeleton h

/-- No reaction changes the skeleton. -/
@[simp] theorem settle_skeleton (s : State) : s.settle.skeleton = s.skeleton :=
  settle_induct (fun t => t.skeleton = s.skeleton) (fun _ _ h hr => (react_skeleton hr).trans h) s rfl

end Sys2Proof.Machine
end

