-- ==== Sys2Proof/Laws/EventEnd.lean ====
section
/-! SUPPORT. The end of an event: what settling, the examination of the drive queue, the lighting of the heads and the sending
of the notices can do, and how a request and an event come to them. -/

namespace Sys2Proof.Machine

/-! ### What the reactions leave, field by field -/

/-- A field that the skeleton keeps is one that no reaction changes. -/
theorem settle_keeps {α : Type} (g : State → α) (h : ∀ s, g s.skeleton = g s) (s : State) : g s.settle = g s := by
  rw [← h s.settle, settle_skeleton, h]

@[simp] theorem settle_now (s : State) : s.settle.now = s.now := settle_keeps (·.now) (fun _ => rfl) s
@[simp] theorem settle_pending (s : State) : s.settle.pending = s.pending := settle_keeps (·.pending) (fun _ => rfl) s
@[simp] theorem settle_levels (s : State) : s.settle.levels = s.levels := settle_keeps (·.levels) (fun _ => rfl) s
@[simp] theorem settle_heads (s : State) : s.settle.heads = s.heads := settle_keeps (·.heads) (fun _ => rfl) s
@[simp] theorem settle_nextLampSample (s : State) : s.settle.nextLampSample = s.nextLampSample := settle_keeps (·.nextLampSample) (fun _ => rfl) s
@[simp] theorem settle_samplesFrom (s : State) : s.settle.samplesFrom = s.samplesFrom := settle_keeps (·.samplesFrom) (fun _ => rfl) s
@[simp] theorem settle_charge (s : State) : s.settle.charge = s.charge := settle_keeps (·.charge) (fun _ => rfl) s
@[simp] theorem settle_links (s : State) : s.settle.links = s.links := settle_keeps (·.links) (fun _ => rfl) s
@[simp] theorem settle_hold (s : State) : s.settle.start.hold = s.start.hold :=
  settle_keeps (·.start.hold) (fun _ => rfl) s
@[simp] theorem settle_config (s : State) : s.settle.start.config = s.start.config :=
  settle_keeps (·.start.config) (fun _ => rfl) s
@[simp] theorem settle_image (s : State) : s.settle.start.image = s.start.image :=
  settle_keeps (·.start.image) (fun _ => rfl) s
@[simp] theorem settle_sentAt (s : State) : s.settle.drive.sentAt = s.drive.sentAt :=
  settle_keeps (·.drive.sentAt) (fun _ => rfl) s
@[simp] theorem settle_limits (s : State) : s.settle.drive.limits = s.drive.limits :=
  settle_keeps (·.drive.limits) (fun _ => rfl) s
@[simp] theorem settle_beams (s : State) : s.settle.drive.beams = s.drive.beams :=
  settle_keeps (·.drive.beams) (fun _ => rfl) s
@[simp] theorem settle_admission (s : State) : s.settle.traffic.admission = s.traffic.admission :=
  settle_keeps (·.traffic.admission) (fun _ => rfl) s
@[simp] theorem settle_period (s : State) : s.settle.acct.period = s.acct.period :=
  settle_keeps (·.acct.period) (fun _ => rfl) s
@[simp] theorem settle_periodImage (s : State) : s.settle.acct.image = s.acct.image :=
  settle_keeps (·.acct.image) (fun _ => rfl) s

/-- No reaction moves a device: each record keeps everything but its requests. -/
theorem settle_dev_still (s : State) (d : Device) : (s.settle.dev d).still = (s.dev d).still := by
  refine settle_keeps (fun s => (s.dev d).still) (fun s => ?_) s
  simp [State.dev, State.skeleton, DeviceRecord.still]

@[simp] theorem settle_position (s : State) (d : Device) : (s.settle.dev d).position = (s.dev d).position :=
  congrArg (fun r => r.position) (settle_dev_still s d)

@[simp] theorem settle_onLine (s : State) (d : Device) : (s.settle.dev d).onLine = (s.dev d).onLine :=
  congrArg (fun r => r.onLine) (settle_dev_still s d)

@[simp] theorem settle_isHeld (s : State) : s.settle.isHeld = s.isHeld := by simp [State.isHeld]

@[simp] theorem settle_cfg (s : State) : s.settle.cfg = s.cfg := by simp [State.cfg]

@[simp] theorem settle_stepMode (s : State) (c : Chamber) : (s.settle.seq c).stepMode = (s.seq c).stepMode :=
  settle_keeps (fun s => (s.seq c).stepMode) (fun s => by simp [State.seq, State.skeleton]) s

/-! ### The examination of the drive queue -/

theorem oldest_mem {s : State} {ds : List Device} {d : Device} (h : s.oldest ds = some d) : d ∈ ds := by
  unfold State.oldest at h
  suffices ∀ (ds : List Device) (b : Option Device),
      ds.foldl (fun best d => match best with
        | none => some d
        | some b => if s.stampOf d < s.stampOf b then some d else some b) b = some d → b = some d ∨ d ∈ ds by
    rcases this _ _ h with h | h
    · cases h
    · exact h
  intro ds
  induction ds with
  | nil => exact fun b h => .inl h
  | cons x xs ih =>
    intro b h
    rw [List.foldl_cons] at h
    rcases ih _ h with h | h
    · split at h
      · exact .inr (Option.some.inj h ▸ List.mem_cons_self ..)
      · split_ifs at h
        · exact .inr (Option.some.inj h ▸ List.mem_cons_self ..)
        · exact .inl h
    · exact .inr (List.mem_cons_of_mem _ h)

/-- The chosen device has an entry; a START entry is eligible (R10). -/
theorem nextOnLine_entry {s : State} {d : Device} (h : s.nextOnLine = some d) :
    ∃ q, (s.dev d).queued = some q ∧ ∀ t, q.task = .start t → s.isBarred d = false ∧ s.startAllowed d t = true := by
  have key : ∀ k, s.queuedIs k d = true → (∀ t, k ≠ .start t) →
      ∃ q, (s.dev d).queued = some q ∧ ∀ t, q.task = .start t → s.isBarred d = false ∧ s.startAllowed d t = true := by
    intro k hk ht
    simp only [State.queuedIs, decide_eq_true_eq] at hk
    obtain ⟨q, hq, hqk⟩ := Option.map_eq_some_iff.mp hk
    exact ⟨q, hq, fun t h => absurd (hqk.symm.trans h) (ht t)⟩
  unfold State.nextOnLine at h
  rcases Option.or_eq_some_iff.mp h with h | ⟨-, h⟩
  · rcases Option.or_eq_some_iff.mp h with h | ⟨-, h⟩
    · exact key .stop (List.mem_filter.mp (oldest_mem h)).2 (by simp)
    · exact key .status (List.mem_filter.mp (oldest_mem h)).2 (by simp)
  · have he := (List.mem_filter.mp (oldest_mem h)).2
    unfold State.eligible at he
    split at he
    · next t n hq =>
      refine ⟨_, hq, fun t' ht' => ?_⟩
      cases ht'
      simpa using he
    · cases he

/-- One examination of the queue (R10, R26): nothing, or the chosen device's entry goes on the free line. -/
theorem dispatch_cases (s : State) :
    s.dispatch = s ∨
      ∃ d q, s.configValid = true ∧ s.isHeld = false ∧ s.drive.sentAt = none ∧ s.nextOnLine = some d ∧
        (s.dev d).queued = some q ∧
        s.dispatch =
          { s with
            drive :=
              { s.drive with
                devices := s.drive.devices.set d { s.dev d with queued := none, onLine := some q.task }
                sentAt := some s.now } } := by
  unfold State.dispatch
  split
  · next hc =>
    split
    · next d hd =>
      obtain ⟨q, hq, -⟩ := nextOnLine_entry hd
      simp only [Bool.and_eq_true, Bool.not_eq_true', decide_eq_true_eq] at hc
      exact .inr ⟨d, q, hc.1.1, hc.1.2, hc.2, hd, hq, by simp [hq, State.setDev]⟩
    · exact .inl rfl
  · exact .inl rfl

/-- The examination touches nothing but the drive controller. -/
theorem dispatch_eq (s : State) : s.dispatch = { s with drive := s.dispatch.drive } := by
  rcases dispatch_cases s with h | ⟨d, q, -, -, -, -, -, h⟩ <;> rw [h]

@[simp] theorem dispatch_now (s : State) : s.dispatch.now = s.now := by rw [dispatch_eq]
@[simp] theorem dispatch_pending (s : State) : s.dispatch.pending = s.pending := by rw [dispatch_eq]
@[simp] theorem dispatch_levels (s : State) : s.dispatch.levels = s.levels := by rw [dispatch_eq]
@[simp] theorem dispatch_seqs (s : State) : s.dispatch.seqs = s.seqs := by rw [dispatch_eq]
@[simp] theorem dispatch_cross (s : State) : s.dispatch.cross = s.cross := by rw [dispatch_eq]
@[simp] theorem dispatch_heads (s : State) : s.dispatch.heads = s.heads := by rw [dispatch_eq]
@[simp] theorem dispatch_nextLampSample (s : State) : s.dispatch.nextLampSample = s.nextLampSample := by rw [dispatch_eq]
@[simp] theorem dispatch_samplesFrom (s : State) : s.dispatch.samplesFrom = s.samplesFrom := by rw [dispatch_eq]
@[simp] theorem dispatch_traffic (s : State) : s.dispatch.traffic = s.traffic := by rw [dispatch_eq]
@[simp] theorem dispatch_charge (s : State) : s.dispatch.charge = s.charge := by rw [dispatch_eq]
@[simp] theorem dispatch_acct (s : State) : s.dispatch.acct = s.acct := by rw [dispatch_eq]
@[simp] theorem dispatch_auth (s : State) : s.dispatch.auth = s.auth := by rw [dispatch_eq]
@[simp] theorem dispatch_links (s : State) : s.dispatch.links = s.links := by rw [dispatch_eq]
@[simp] theorem dispatch_start (s : State) : s.dispatch.start = s.start := by rw [dispatch_eq]
@[simp] theorem dispatch_event (s : State) : s.dispatch.event = s.event := by rw [dispatch_eq]

@[simp] theorem dispatch_position (s : State) (d : Device) : (s.dispatch.dev d).position = (s.dev d).position := by
  rcases dispatch_cases s with h | ⟨x, q, -, -, -, -, -, h⟩ <;> rw [h]
  by_cases hd : d = x
  · subst hd; simp [State.dev]
  · simp [State.dev, hd]

/-! ### The heads -/

theorem lightHeads_eq (s : State) : s.lightHeads = { s with heads := s.lightHeads.heads } := rfl

/-! ### The notices -/

theorem deferralNotices_eq (s : State) : s.deferralNotices = { s with event := s.deferralNotices.event } := by
  unfold State.deferralNotices
  simp only [List.foldl_cons, List.foldl_nil]
  split_ifs <;> rfl

/-- The end of an event that nothing reacts to: only the link ports change, and each is only served (R184, R197). -/
theorem finishQuiet_eq (s : State) : s.finishQuiet = { s with links := s.finishQuiet.links, event := .blank } := by
  unfold State.finishQuiet
  rw [deferralNotices_eq]
  rfl

theorem finishQuiet_port (s : State) (l : Link) : Served (s.port l) (s.finishQuiet.port l) := by
  unfold State.finishQuiet
  rw [deferralNotices_eq]
  simp only [Served, State.port, State.rest, State.flush, PerLink.get_map]
  exact ⟨_, rfl⟩

/-- The end of an event that has produced no notice and deferred no vessel: free transmitters take what waits, and that is all. -/
theorem finishQuiet_port_silent {s : State} (h : s.event.produced = []) (hd : s.event.deferred = .both false) (l : Link) :
    s.finishQuiet.port l = (s.port l).transmit := by
  have h1 : s.deferralNotices = s := by simp [State.deferralNotices, hd, PerEnd.both, PerEnd.get]
  simp [State.finishQuiet, h1, State.flush, State.eventNotices, h, State.port, State.rest, LinkPort.join]

@[simp] theorem finishQuiet_now (s : State) : s.finishQuiet.now = s.now := by rw [finishQuiet_eq]
@[simp] theorem finishQuiet_pending (s : State) : s.finishQuiet.pending = s.pending := by rw [finishQuiet_eq]
@[simp] theorem finishQuiet_drive (s : State) : s.finishQuiet.drive = s.drive := by rw [finishQuiet_eq]
@[simp] theorem finishQuiet_levels (s : State) : s.finishQuiet.levels = s.levels := by rw [finishQuiet_eq]
@[simp] theorem finishQuiet_seqs (s : State) : s.finishQuiet.seqs = s.seqs := by rw [finishQuiet_eq]
@[simp] theorem finishQuiet_cross (s : State) : s.finishQuiet.cross = s.cross := by rw [finishQuiet_eq]
@[simp] theorem finishQuiet_heads (s : State) : s.finishQuiet.heads = s.heads := by rw [finishQuiet_eq]
@[simp] theorem finishQuiet_nextLampSample (s : State) : s.finishQuiet.nextLampSample = s.nextLampSample := by rw [finishQuiet_eq]
@[simp] theorem finishQuiet_samplesFrom (s : State) : s.finishQuiet.samplesFrom = s.samplesFrom := by rw [finishQuiet_eq]
@[simp] theorem finishQuiet_traffic (s : State) : s.finishQuiet.traffic = s.traffic := by rw [finishQuiet_eq]
@[simp] theorem finishQuiet_charge (s : State) : s.finishQuiet.charge = s.charge := by rw [finishQuiet_eq]
@[simp] theorem finishQuiet_acct (s : State) : s.finishQuiet.acct = s.acct := by rw [finishQuiet_eq]
@[simp] theorem finishQuiet_auth (s : State) : s.finishQuiet.auth = s.auth := by rw [finishQuiet_eq]
@[simp] theorem finishQuiet_start (s : State) : s.finishQuiet.start = s.start := by rw [finishQuiet_eq]

/-- A served port keeps its slots, its presence and its receive buffer. -/
theorem Served.keeps {p q : LinkPort} (h : Served p q) :
    q.reply = p.reply ∧ q.busy = p.busy ∧ q.lastFrame = p.lastFrame ∧ q.receive = p.receive := by
  obtain ⟨ns, rfl⟩ := h
  unfold LinkPort.transmit LinkPort.join
  split
  · exact ⟨rfl, rfl, rfl, rfl⟩
  · split
    · exact ⟨rfl, rfl, rfl, rfl⟩
    · split
      · exact ⟨rfl, rfl, rfl, rfl⟩
      · split <;> exact ⟨rfl, rfl, rfl, rfl⟩

theorem finish_eq (s : State) : s.finish = s.settle.dispatch.lightHeads.finishQuiet := rfl

/-- Whatever the reactions are, an event's end is a reaction to its own effect. -/
theorem finish_reacts (s : State) : Reacts s s.finish := ⟨rfl, settle_skeleton s⟩

/-! ### Requests and events -/

/-- Writing the reply into the slot. -/
theorem place_eq (a : Answer) (f : Frame) (code : Byte) :
    a.place f code =
      if a.settles then (a.state.replied f code a.result a.data).finish
      else (a.state.replied f code a.result a.data).finishQuiet := rfl

/-- A request that the part takes. -/
theorem request_taken {s : State} {f : Frame} (h : Ready s f) (dt : Nat) (code : Byte) (body : State → Answer) :
    s.request dt f code body = .next ((body (s.taken dt f)).place f code) := by
  obtain ⟨h1, h2⟩ := h
  have h3 : (s.beginEvent dt).isHeld = false := h1
  have h4 : (((s.beginEvent dt).hear f.link).port f.link).reply = none := by
    simpa [State.hear, State.hearAt, State.port, LinkPort.received] using h2
  simp only [State.request, h3, State.takeFrame, State.meetSlots, h4, State.taken, Bool.false_eq_true, if_false]

/-- An event that reaches the part. -/
theorem event_taken {s : State} (h : s.isHeld = false) (dt : Nat) (body : State → State) :
    s.event? dt body = .next (body (s.beginEvent dt)) := by
  have h1 : (s.beginEvent dt).isHeld = false := h
  simp only [State.event?, h1, Bool.false_eq_true, if_false]

/-- Every request answers a next state. -/
theorem request_next (s : State) (dt : Nat) (f : Frame) (code : Byte) (body : State → Answer) :
    ∃ t, s.request dt f code body = .next t := ⟨_, rfl⟩

theorem taken_port (s : State) (dt : Nat) (f : Frame) (l : Link) :
    (s.taken dt f).port l =
      if l = f.link then { s.port l with lastFrame := some (s.now + dt), receive := [] } else s.port l := by
  unfold State.taken State.hear State.hearAt State.port
  split
  · next h => subst h; simp [LinkPort.received]
  · next h => simp [h]

/-- The ports with the reply in its slot, where the body has left the links alone. -/
theorem replied_port {s u : State} {dt : Nat} {f : Frame} (code : Byte) (r : Result) (d : ReplyData)
    (h : u.links = (s.taken dt f).links) (l : Link) :
    (u.replied f code r d).port l =
      if l = f.link then (s.port l).answered (s.now + dt) ⟨replyKind code, f.tag, r, d⟩ else s.port l := by
  have h3 : u.port l = (s.taken dt f).port l := congrArg (·.get l) h
  rw [taken_port] at h3
  unfold State.replied
  split
  · next hl =>
    subst hl
    have h4 : u.links.get f.link = _ := h3
    simp only [if_true] at h4
    simp [State.port, State.modPort, h4, LinkPort.answered]
  · next hl =>
    rw [if_neg hl] at h3
    have h4 : u.links.get l = _ := h3
    simpa [State.port, State.modPort, hl] using h4

/-- After the quiet end of a request whose body leaves the links alone, the frame's port holds the reply and every port has
only been served. -/
theorem quiet_linksAnswered {s u : State} {dt : Nat} {f : Frame} (code : Byte) (r : Result) (d : ReplyData)
    (h : u.links = (s.taken dt f).links) : LinksAnswered s (u.replied f code r d).finishQuiet dt f code r d := fun l => by
  rw [← replied_port code r d h l]; exact finishQuiet_port (u.replied f code r d) l

/-- The same where the body has produced no notice. -/
theorem quiet_linksReplied {s u : State} {dt : Nat} {f : Frame} (code : Byte) (r : Result) (d : ReplyData)
    (h : u.links = (s.taken dt f).links) (hp : u.event.produced = []) (hd : u.event.deferred = .both false) :
    LinksReplied s (u.replied f code r d).finishQuiet dt f code r d := fun l => by
  rw [← replied_port code r d h l]; exact finishQuiet_port_silent (s := u.replied f code r d) hp hd l

end Sys2Proof.Machine
end

