-- ==== Sys2Proof/Laws/Operations.lean ====
section
/-! SUPPORT. What the shared operations on device records, accounts and queues can do, said once each: the provers cite these in
place of unfolding the operations. -/

namespace Sys2Proof.Machine

/-! ### Requests to a device (R6, R7, R8) -/

/-- A START request is not taken, is complete at once, places or retargets the entry, or becomes the next start (R6). -/
theorem startRequest_cases (s : State) (d : Device) (t : Target) :
    (s.startRequest d t = s ∧ ((s.dev d).position = .faulted ∨ s.isBarred d = true ∨
      ((s.dev d).atRest = true ∧ s.reached d t = true))) ∨
    (s.startRequest d t = s.setDev d { s.dev d with outstanding := some (.move t), queued := some ⟨.start t, s.now⟩ } ∧
      (s.dev d).position ≠ .faulted ∧ s.isBarred d = false ∧
      (((s.dev d).atRest = true ∧ s.reached d t = false) ∨ (s.dev d).startQueued = true)) ∨
    (s.startRequest d t = s.setDev d { s.dev d with nextStart := some t } ∧
      (s.dev d).position ≠ .faulted ∧ s.isBarred d = false ∧ (s.dev d).atRest = false ∧ (s.dev d).startQueued = false) := by
  have e1 := updDev_eq_setDev s d (fun r => { r with outstanding := some (.move t), queued := some ⟨.start t, s.now⟩ }) rfl
  have e2 := updDev_eq_setDev s d (fun r => { r with nextStart := some t }) rfl
  unfold State.startRequest
  rw [e1, e2]
  cases h1 : decide ((s.dev d).position = .faulted) <;> cases h2 : s.isBarred d <;> cases h3 : (s.dev d).atRest <;>
    cases h4 : s.reached d t <;> cases h5 : (s.dev d).startQueued <;> simp_all

/-- A STOP request is not taken from a barred chamber; it places a STOP entry, or only clears the next start (R7). -/
theorem stopRequest_cases (s : State) (d : Device) :
    (s.stopRequest d = s ∧ s.isBarred d = true) ∨
    (s.stopRequest d =
        s.setDev d { s.dev d with outstanding := some .stop, queued := some ⟨.stop, s.now⟩, nextStart := none } ∧
      s.isBarred d = false ∧ (s.dev d).stoppable = true) ∨
    (s.stopRequest d = s.setDev d { s.dev d with nextStart := none } ∧ s.isBarred d = false ∧
      (s.dev d).stoppable = false) := by
  have e1 := updDev_eq_setDev s d
    (fun r => { r with outstanding := some .stop, queued := some ⟨.stop, s.now⟩, nextStart := none }) rfl
  have e2 := updDev_eq_setDev s d (fun r => { r with nextStart := none }) rfl
  unfold State.stopRequest
  rw [e1, e2]
  cases h1 : s.isBarred d <;> cases h2 : (s.dev d).stoppable <;> simp_all

/-- A status query sets the flag; it takes the place of a queued START, or places its entry, or waits (R8). -/
theorem statusQuery_cases (s : State) (d : Device) :
    (s.statusQuery d =
        s.setDev d
          { s.dev d with queryFlag := true, outstanding := none, nextStart := none, queued := some ⟨.status, s.now⟩ } ∧
      (s.dev d).startQueued = true) ∨
    (s.statusQuery d = s.setDev d { s.dev d with queryFlag := true, queued := some ⟨.status, s.now⟩ } ∧
      (s.dev d).startQueued = false ∧
      ((s.dev d).atRest = true ∨ ((s.dev d).awaitingDone = true ∧ (s.dev d).queued = none ∧ (s.dev d).onLine = none))) ∨
    (s.statusQuery d = s.setDev d { s.dev d with queryFlag := true } ∧ (s.dev d).startQueued = false) := by
  have e1 := updDev_eq_setDev s d
    (fun r => { r with queryFlag := true, outstanding := none, nextStart := none, queued := some ⟨.status, s.now⟩ }) rfl
  have e2 := updDev_eq_setDev s d (fun r => { r with queryFlag := true, queued := some ⟨.status, s.now⟩ }) rfl
  have e3 := updDev_eq_setDev s d (fun r => { r with queryFlag := true }) rfl
  unfold State.statusQuery
  dsimp only
  rw [e1, e2, e3]
  cases h1 : (s.dev d).startQueued <;> cases h2 : (s.dev d).atRest <;> cases h3 : (s.dev d).awaitingDone <;>
    cases h4 : decide ((s.dev d).queued = none) <;> cases h5 : decide ((s.dev d).onLine = none) <;> simp_all

/-! ### Accounts (R168) -/

/-- The total after an addition: the sum, held at the bound. -/
theorem Account.add_total (a : Account) (n : Nat) (k : Bool) (t : LockTime) :
    (a.add n k t).total = min periodTotalBound (a.total + n) := by
  simp only [Account.add]; split <;> omega

/-- The saturated flag after an addition. -/
theorem Account.add_saturated (a : Account) (n : Nat) (k : Bool) (t : LockTime) :
    (a.add n k t).saturated = (a.saturated || decide (periodTotalBound < a.total + n)) := rfl

/-- The count after an addition to an account whose count keeps its bound. -/
theorem Account.add_count (a : Account) (n : Nat) (k : Bool) (t : LockTime) (h : a.count ≤ periodCountBound) :
    (a.add n k t).count = min periodCountBound (a.count + k.toNat) := by
  cases k <;> simp [Account.add] <;> (try split) <;> omega

@[simp] theorem Account.add_blocked (a : Account) (n : Nat) (k : Bool) (t : LockTime) : (a.add n k t).blocked = a.blocked := rfl
@[simp] theorem Account.add_lastCharged (a : Account) (n : Nat) (k : Bool) (t : LockTime) :
    (a.add n k t).lastCharged = some t := rfl

/-- An addition keeps the bounds. -/
theorem Account.add_bounded (a : Account) (n : Nat) (k : Bool) (t : LockTime) (h : a.count ≤ periodCountBound) :
    (a.add n k t).total ≤ periodTotalBound ∧ (a.add n k t).count ≤ periodCountBound := by
  rw [Account.add_total, Account.add_count _ _ _ _ h]
  exact ⟨Nat.min_le_left .., Nat.min_le_left ..⟩

/-! ### Trips (R23, R24) -/

/-- The three samples that a trip counts: the first at or after the moment since which its condition stands as it does. -/
theorem sampledThrice_iff (s : State) (t : Trip) :
    s.sampledThrice t = true ↔
      ∃ k, 1 ≤ k ∧ t.since ≤ s.samplesFrom + 20 * k ∧ s.samplesFrom + 20 * (k + 2) ≤ s.now := by
  have h : s.sampledThrice t = true ↔
      s.samplesFrom + 20 * max 1 ((t.since - s.samplesFrom + 19) / 20) + 40 ≤ s.now := decide_eq_true_iff
  rw [h]
  constructor
  · exact fun h => ⟨max 1 ((t.since - s.samplesFrom + 19) / 20), by omega, by omega, by omega⟩
  · rintro ⟨k, h1, h2, h3⟩
    omega

/-- A trip follows its condition: only the moment since which it stands may change, and never to an earlier one. -/
theorem Trip.follow_cases (t : Trip) (now : Nat) (changed : Bool) :
    t.follow now changed = { t with since := (t.follow now changed).since } ∧ t.since ≤ (t.follow now changed).since := by
  cases changed <;> simp [Trip.follow]

@[simp] theorem followTrips_dev (s before : State) (d : Device) : (s.followTrips before).dev d = s.dev d := rfl
@[simp] theorem followTrips_limits (s before : State) : (s.followTrips before).drive.limits = s.drive.limits := rfl
@[simp] theorem armLimitTrip_dev (s : State) (c : Chamber) (b : Bool) (d : Device) : (s.armLimitTrip c b).dev d = s.dev d := rfl
@[simp] theorem armCrossTrip_dev (s : State) (b : Bool) (d : Device) : (s.armCrossTrip b).dev d = s.dev d := rfl

/-! ### Notices (R197) -/

/-- What a queue holds after a notice has joined: the notice, and those of another kind or subject. -/
theorem mem_joinQueue (q : List Notice) (n m : Notice) : m ∈ joinQueue q n ↔ m = n ∨ (m ∈ q ∧ m.samePair n = false) := by
  simp [joinQueue, or_comm]

/-! ### Bodies of frames (R182) -/

@[simp] theorem beBytes_length (width n : Nat) : (beBytes width n).length = width := by
  induction width with
  | zero => rfl
  | succ w ih => simp [beBytes, ih]

@[simp] theorem lockTimeBytes_length (t : LockTime) : (lockTimeBytes t).length = 5 := rfl

@[simp] theorem bodyBytes_cons (x : BodyField) (xs : List BodyField) : bodyBytes (x :: xs) = x.bytes ++ bodyBytes xs := rfl

@[simp] theorem bodyBytes_append (xs ys : List BodyField) : bodyBytes (xs ++ ys) = bodyBytes xs ++ bodyBytes ys := by
  simp [bodyBytes]

/-! ### Containers of State -/

theorem setDev_drive (s : State) (d : Device) (r : DeviceRecord) :
    (s.setDev d r).drive = { s.drive with devices := s.drive.devices.set d r } := rfl

@[simp] theorem setDev_other (s : State) (d : Device) (r : DeviceRecord) :
    (s.setDev d r).seqs = s.seqs ∧ (s.setDev d r).cross = s.cross ∧ (s.setDev d r).traffic = s.traffic ∧
      (s.setDev d r).acct = s.acct ∧ (s.setDev d r).auth = s.auth ∧ (s.setDev d r).links = s.links ∧
      (s.setDev d r).event = s.event := ⟨rfl, rfl, rfl, rfl, rfl, rfl, rfl⟩

end Sys2Proof.Machine
end

