-- ==== Sys2Proof/Laws/Outcomes.lean ====
section
/-! SUPPORT. From an operation that keeps the skeleton to what a whole command answers: the end of an event keeps the frame, and a
request or an event that comes to such an operation is carried out or takes place (Safety.lean). -/

namespace Sys2Proof.Machine

/-! ### The frame -/

/-- The frame is a function of the skeleton. -/
theorem frame_of_skeleton {s t : State} (h : s.skeleton = t.skeleton) : s.frame = t.frame := by
  simp only [State.frame, h]

theorem dispatch_frame (s : State) : s.dispatch.frame = s.frame := by
  rcases dispatch_cases s with h | ⟨d, q, -, -, -, -, -, h⟩
  · rw [h]
  · have hd : (s.drive.devices.set d { s.dev d with queued := none, onLine := some q.task }).map
        (DeviceRecord.stance ∘ DeviceRecord.still) = s.drive.devices.map (DeviceRecord.stance ∘ DeviceRecord.still) := by
      rw [PerDevice.map_set]
      have : (DeviceRecord.stance ∘ DeviceRecord.still) { s.dev d with queued := none, onLine := some q.task } =
          (s.drive.devices.map (DeviceRecord.stance ∘ DeviceRecord.still)).get d := by
        rw [PerDevice.map_get]; rfl
      rw [this, Sys2Proof.PerDevice.set_get]
    have hm : ∀ p : PerDevice DeviceRecord, (p.map DeviceRecord.still).map DeviceRecord.stance =
        p.map (DeviceRecord.stance ∘ DeviceRecord.still) := fun _ => rfl
    rw [h]
    simp only [State.frame, State.skeleton, hm, hd]

/-- The end of an event changes nothing of the frame. -/
theorem finish_frame (s : State) : s.finish.frame = s.frame := by
  have h1 : s.finish.frame = s.settle.dispatch.frame := by
    rw [finish_eq, finishQuiet_eq, lightHeads_eq]; rfl
  rw [h1, dispatch_frame, frame_of_skeleton (settle_skeleton s)]

theorem finish_port (s : State) (l : Link) : Served (s.port l) (s.finish.port l) := by
  have h := finishQuiet_port s.settle.dispatch.lightHeads l
  rwa [show s.settle.dispatch.lightHeads.port l = s.port l from by
    rw [lightHeads_eq]; simp [State.port]] at h

@[simp] theorem finish_now (s : State) : s.finish.now = s.now := by
  rw [finish_eq, finishQuiet_now, lightHeads_eq]; simp
@[simp] theorem finish_pending (s : State) : s.finish.pending = s.pending := by
  rw [finish_eq, finishQuiet_pending, lightHeads_eq]; simp
@[simp] theorem finish_auth (s : State) : s.finish.auth = s.settle.auth := by
  rw [finish_eq, finishQuiet_auth, lightHeads_eq]; simp
@[simp] theorem finish_seqs (s : State) : s.finish.seqs = s.settle.seqs := by
  rw [finish_eq, finishQuiet_seqs, lightHeads_eq]; simp
@[simp] theorem finish_acct (s : State) : s.finish.acct = s.settle.acct := by
  rw [finish_eq, finishQuiet_acct, lightHeads_eq]; simp
@[simp] theorem finish_drive (s : State) : s.finish.drive = s.settle.dispatch.drive := by
  rw [finish_eq, finishQuiet_drive, lightHeads_eq]

/-! ### Events -/

/-- An event that comes to an operation which keeps the links takes place, and leaves the frame that the operation leaves. -/
theorem takesPlace_of {s : State} {dt : Nat} {op : State → State} {o : Outcome}
    (ho : o = .next (op (s.beginEvent dt)).finish) (hl : (op (s.beginEvent dt)).links = s.links) :
    TakesPlace s dt op (op (s.beginEvent dt)).frame o :=
  ⟨_, ho, rfl, fun l => by
    have h := finish_port (op (s.beginEvent dt)) l
    rwa [show (op (s.beginEvent dt)).port l = s.port l from congrArg (·.get l) hl] at h, finish_frame _⟩

theorem beginEvent_frame (s : State) (dt : Nat) : (s.beginEvent dt).frame = { s.frame with now := s.now + dt } := rfl

/-- An operation that keeps the skeleton leaves the frame as it was but for the time. -/
theorem takesPlace_skeleton {s : State} {dt : Nat} {op : State → State} {o : Outcome}
    (ho : o = .next (op (s.beginEvent dt)).finish) (hs : (op (s.beginEvent dt)).skeleton = (s.beginEvent dt).skeleton) :
    TakesPlace s dt op { s.frame with now := s.now + dt } o := by
  have hl : (op (s.beginEvent dt)).links = s.links := congrArg (·.links) hs
  have h := takesPlace_of ho hl
  rwa [frame_of_skeleton hs, beginEvent_frame] at h

/-! ### Requests -/

theorem replied_frame (s : State) (f : Frame) (code : Byte) (r : Result) (d : ReplyData) :
    (s.replied f code r d).frame = s.frame := rfl

theorem taken_frame (s : State) (dt : Nat) (f : Frame) : (s.taken dt f).frame = { s.frame with now := s.now + dt } := rfl

/-- After the end of a request whose operation leaves the links alone, the frame's port holds the reply. -/
theorem finish_linksAnswered {s u : State} {dt : Nat} {f : Frame} (code : Byte) (r : Result) (d : ReplyData)
    (h : u.links = (s.taken dt f).links) : LinksAnswered s (u.replied f code r d).finish dt f code r d := fun l => by
  rw [← replied_port code r d h l]; exact finish_port (u.replied f code r d) l

/-- A request whose body accepts with an operation that keeps the skeleton is carried out. -/
theorem carriedOut_of {s : State} {dt : Nat} {f : Frame} {code : Byte} {d : ReplyData} {op : State → State}
    {body : State → Answer} (hr : Ready s f) (hb : body (s.taken dt f) = (op (s.taken dt f)).accept d)
    (hs : (op (s.taken dt f)).skeleton = (s.taken dt f).skeleton) :
    CarriedOut s dt f code d op (s.request dt f code body) := by
  refine ⟨_, request_taken hr dt code body, ?_, ?_, ?_⟩
  · rw [hb]; rfl
  · rw [hb]; exact finish_linksAnswered code .ok d (congrArg (·.links) hs)
  · rw [hb]
    show (((op (s.taken dt f)).replied f code .ok d).finish).frame = _
    rw [finish_frame, replied_frame, frame_of_skeleton hs, taken_frame]

/-- A refused request only brings its reply (R185). -/
theorem refused_onlyAnswered {s : State} {dt : Nat} {f : Frame} {code : Byte} {r : Result} {body : State → Answer}
    (hr : Ready s f) (hb : body (s.taken dt f) = (s.taken dt f).refuse r) :
    OnlyAnswered s dt f code r .none (s.request dt f code body) := by
  refine ⟨_, request_taken hr dt code body, ?_, ?_⟩
  · rw [hb]
    show ((s.taken dt f).replied f code r .none).finishQuiet = _
    rw [finishQuiet_eq]; rfl
  · rw [hb]; exact quiet_linksReplied code r .none rfl rfl rfl

/-- A read that is accepted only brings its reply. -/
theorem read_onlyAnswered {s : State} {dt : Nat} {f : Frame} {code : Byte} {d : ReplyData} {body : State → Answer}
    (hr : Ready s f) (hb : body (s.taken dt f) = (s.taken dt f).acceptQuiet d) :
    OnlyAnswered s dt f code .ok d (s.request dt f code body) := by
  refine ⟨_, request_taken hr dt code body, ?_, ?_⟩
  · rw [hb]
    show ((s.taken dt f).replied f code .ok d).finishQuiet = _
    rw [finishQuiet_eq]; rfl
  · rw [hb]; exact quiet_linksReplied code .ok d rfl rfl rfl

end Sys2Proof.Machine
end

