-- ==== Sys2Proof/WellFormed.lean ====
section
/-! DEFINITION. Well-formed commands: the operands are ones that the row's frame, event or measurement can bring. A meaning
does not rest on it: every command has an effect, well-formed or not. -/

namespace Sys2Proof

/-- A number that a frame carries in one byte (R182). -/
def fitsByte (n : Nat) : Bool := n ≤ 255

/-- A number that a frame carries in two bytes (R182). -/
def fitsHalf (n : Nat) : Bool := n ≤ 65535

/-- A mark in the eight bytes of R175. -/
def fitsMark (m : Mark) : Bool := m.length ≤ 8

def fitsExpected (m : Option Mark) : Bool := (m.map fitsMark).getD true

/-- The two times of a frame as R182 carries them: two bytes for the day, three for second and weekday. -/
def fitsTime (day second weekday : Nat) : Bool := fitsHalf day && second ≤ 2097151 && weekday ≤ 7

/-- The fields of REGISTER VESSEL (R104, R107). -/
def Registration.wellFormed (r : Registration) : Bool :=
  fitsMark r.mark && fitsHalf r.length && fitsHalf r.beam && fitsHalf r.draught && fitsByte r.account

/-- The fields of AMEND VESSEL (R104, R111). -/
def Amendment.wellFormed (a : Amendment) : Bool :=
  fitsHalf a.length && fitsHalf a.beam && fitsHalf a.draught && fitsByte a.account

/-- A tariff has a band for each of the 168 hours of a week (R155). -/
def Tariff.wellFormed (t : Tariff) : Bool := fitsHalf t.version && t.bandMap.length = 168 && t.bandMap.all fitsByte

def Instant.wellFormed (i : Instant) : Bool := fitsTime i.day i.second 0

/-- The store holds and returns the 99 bytes of the block (R203). -/
def StoreAnswer.wellFormed (x : StoreAnswer) : Bool :=
  [x.damage, x.readBack].all fun y => (y.map fun b => decide (b.length = 99)).getD true

/-- The contents of a frame hold at most 248 bytes beside kind code and tag (R182). -/
def maxContents : Nat := 248

/-- A frame that is discarded begins with the start value and is no valid frame (R183). -/
def discardable (gap : Bool) (bytes : List ArrivedByte) : Bool :=
  let values := bytes.map (·.value)
  values.head? = some Machine.startByte && (Machine.readFrame values).isNone && bytes.length ≤ maxContents + 6 &&
    Machine.arrivedInTime gap bytes

/-- A reading of the converter (R27, R29): 0 to 25 000 microamperes. -/
def readingsOk (r : PerPlace (PerSensor Nat)) : Bool :=
  [r.chambers.a, r.chambers.b, r.pounds.upper, r.pounds.lower].all fun p => p.one ≤ 25000 && p.two ≤ 25000

/-- A well-formed command. -/
def Instr.wellFormed : Instr → Bool
  | .addVessel _ _ _ handle mark => fitsByte handle && fitsExpected mark
  | .closeEntry _ _ _ list => list.length ≤ maxContents && list.all fun e => fitsByte e.1 && fitsExpected e.2
  | .setAdmission _ _ _ level => fitsByte level
  | .loadConfiguration _ _ block store => block.length ≤ maxContents && store.wellFormed
  | .registerVessel _ _ r => r.wellFormed
  | .amendVessel _ _ handle mark a => fitsByte handle && fitsExpected mark && a.wellFormed
  | .withdrawVessel _ _ handle mark => fitsByte handle && fitsExpected mark
  | .setTime _ _ day second weekday => fitsTime day second weekday
  | .loadTariff _ _ t effective => t.wellFormed && (effective.map Instant.wellFormed).getD true
  | .blockAccount _ _ account => fitsByte account
  | .unblockAccount _ _ account => fitsByte account
  | .takeRecord _ _ expected => (expected.map fun n => decide (n ≤ 4294967295)).getD true
  | .readPeriodImage _ _ account => fitsByte account
  | .readStatus _ _ which => fitsByte which
  | .readVessel _ _ handle mark => fitsByte handle && fitsExpected mark
  | .readQueue _ _ _ place => fitsByte place
  | .readAccount _ _ account => fitsByte account
  | .unknownCommand _ _ code _ => !Machine.isRequestCode code
  | .frameInvalid _ _ bytes => discardable false bytes
  | .frameGapTimeout _ _ bytes => discardable true bytes
  | .startAnswer _ address _ => fitsByte address
  | .stopAnswer _ address _ => fitsByte address
  | .statusReply _ address _ _ _ => fitsByte address
  | .scanCompletion _ answer => readingsOk answer.readings
  | .claim .. | .release .. | .present .. | .seize .. | .startLockage .. | .exitDone .. | .hold .. | .resume ..
  | .abandon .. | .acknowledgeFault .. | .acknowledgeFaultCross .. | .setMode .. | .advance .. | .setService ..
  | .clearLockout .. | .lampCheck .. | .peekRecord .. | .closePeriod .. | .readTariff .. | .busyLink ..
  | .frameDiscardedSlotsFull .. | .frameSent .. | .holderSilence .. | .claimantSilence .. | .driveAnswerTimeout ..
  | .driveFrameDiscarded .. | .doneEvent .. | .travelDeadlineExpiry .. | .deadTimeExpiry .. | .limitInputChange ..
  | .sillBeamBreak .. | .sillBeamClear .. | .limitConflict .. | .limitConflictRearm .. | .crossConflict ..
  | .crossConflictRearm .. | .scanStart .. | .levelTimeout .. | .levelLost .. | .crossWaitExpiry ..
  | .crossExchangeExpiry .. | .lampLatch .. | .lampStray .. | .clockTick .. | .resetLineHeld .. | .mainPowerHeld ..
  | .partReleased .. | .batteryLow .. | .configReadEnd .. | .censusQueries .. | .lampCurrentSample ..
  | .doneInputChange .. => true

end Sys2Proof
end

