-- ==== Sys2Proof/Tests/Slice0.lean ====
section
/-! SUPPORT. Tests by the manual's own figures, the refusals of `Instr.wellFormed`, and for every statement with hypotheses a
state and operands that meet them. -/

namespace Sys2Proof.Tests

open Sys2Proof.Machine

/-! ### States for the tests -/

/-- The part after a start-up under the default configuration, both chambers IDLE. -/
def demo : State :=
  { State.reset with
    start := { State.reset.start with stage := .ended, config := .valid, image := some (readBlock Config.newBlock) } }

def desk : Frame := ⟨.desk, 1, true⟩
def toll : Frame := ⟨.toll, 2, true⟩

def cargo : Vessel :=
  { handle := 1, mark := [0x41], cls := .cargo, length := 860, beam := 110, draught := 300, account := 7, direction := .up,
    arrival := ⟨1, 10, 1⟩, state := .waiting, deferral := none }

/-- A record with the vessel in its plan. -/
def record : LockageRecord := { demo.newRecord .up with plan := [⟨1, false⟩], usedLength := 880, reservation := .normal }

/-- Chamber A in a phase with the record, held by the desk; the vessel stands in the table as given. -/
def at' (p : Phase) (v : VesselState) : State :=
  ({ demo with traffic := { demo.traffic with vessels := [{ cargo with state := v }] } } : State).setAuth .A
      ⟨some .desk, none, false⟩ |>.modSeq .A fun q => { q with phase := p, lockage := some record }

/-- The vessel waits in the lower approach queue; the pounds have levels; the desk holds chamber A, whose plan is empty. -/
def waiting (p : Phase) : State :=
  let s := (at' p .waiting).modLockage .A fun l => { l with plan := [], usedLength := 0, reservation := .none }
  { s with
    traffic := { s.traffic with queues := ⟨[], [1]⟩ }
    levels := { s.levels with pairs := .all ⟨.good 6140, some ⟨6140, 0⟩⟩ } }

/-- Chamber A in HOLD with the given reasons, to resume in LEVELLING. -/
def holding (h : HoldSet) : State := (at' .hold (.aboard .A)).modSeq .A fun q => { q with holds := h, resume := some .levelling }

def tariff : Tariff := ⟨3, ⟨⟨1, 1⟩, ⟨1, 1⟩, ⟨1, 1⟩, ⟨1, 1⟩⟩, ⟨0, 400, 100, 125⟩, List.replicate 168 3, 100000⟩

def posted : ChargeRecord := demo.chargeRecord .A record [cargo]

/-- A state in which every read request has something to show. -/
def rich : State :=
  { waiting .idle with
    charge := { demo.charge with current := some tariff, pending := some ⟨{ tariff with version := 4 }, ⟨65535, 86399⟩⟩ }
    acct := { demo.acct with journal := [posted], image := (demo.acct.imageNow ⟨1, 2, 3⟩ true) } }

/-- A device's record rewritten. -/
def dev (s : State) (d : Device) (g : DeviceRecord → DeviceRecord) : State := s.setDev d (g (s.dev d))

/-- A device's transaction on the line, sent at 0. -/
def line (s : State) (d : Device) (k : Task) : State :=
  let s1 := dev s d fun r => { r with onLine := some k }
  { s1 with drive := { s1.drive with sentAt := some 0 } }

/-- Both chambers in CROSSING with opposite claims over a head of 800 mm, XV confirmed CLOSED. -/
def crossing : State :=
  let s := dev ((at' .crossing (.aboard .A)).modSeq .B fun q => { q with phase := .crossing, lockage := some record }) .xv
    fun r => { r with position := .closed, reportedEnd := some .closed }
  { s with
    drive := { s.drive with limits := s.drive.limits.set .xv .active }
    levels := { s.levels with pairs := { s.levels.pairs with chambers := ⟨⟨.good 800, none⟩, ⟨.good 0, none⟩⟩ } }
    cross := { s.cross with claims := ⟨some ⟨.drain, 0, 90000, true⟩, some ⟨.fill, 0, 90000, true⟩⟩ } }

/-- The exchange of the two chambers in a stage. -/
def exchanging (x : ExchangeStage) : State :=
  { crossing with
    cross := { crossing.cross with stage := x, grant := some ⟨.A, .B, ⟨1, 1⟩⟩, exchangeTimer := some 600000 } }

/-- Bytes that came one a millisecond, the last of them a number of milliseconds ago. -/
def arrived (ago : Nat) (bs : List Byte) : List ArrivedByte := bs.mapIdx fun i b => ⟨b, ago + (bs.length - 1 - i)⟩

def clear : PerHead (PerLamp Bool) := .all ⟨true, false, false⟩

/-- A statement about the nine devices is one about their list. -/
theorem forall_device {p : Device → Prop} (h : ∀ d ∈ Device.all, p d) (d : Device) : p d :=
  h d (by rcases d with ⟨c, e⟩ | ⟨c, e⟩ | _ <;> first | decide | (cases c <;> cases e <;> decide))

/-! ### The manual's own figures -/

/-- The worked conversions of 02. -/
theorem test_level_conversions :
    levelOf ⟨-2000, 10000⟩ 12345 = 3216 ∧ levelOf ⟨-2000, 10000⟩ 3804 = -2122 ∧ levelOf ⟨15000, 10000⟩ 20000 = 20000 ∧
      judge ⟨-2000, 10000⟩ 3799 = .lost .low ∧ judge ⟨15000, 10000⟩ 20501 = .lost .high := by decide

/-- The means of R31. -/
theorem test_pair_means : pairOf 60 (.valid 1402) (.valid 1391) = .good 1397 ∧ pairOf 60 (.valid (-101)) (.valid (-100)) = .good (-100) ∧
    pairOf 60 (.valid 0) (.valid 61) = .disagree := by decide

/-- The worked sill tests of 02. -/
theorem test_sill :
    let s (lower : Int) : State :=
      { demo with levels := { demo.levels with pairs :=
          { demo.levels.pairs with pounds := ⟨⟨.good 6140, some ⟨6140, 0⟩⟩, ⟨.invalid, some ⟨lower, 0⟩⟩⟩ } } }
    (s 1320).sillTest .A 290 = none ∧ (s 1320).sillTest .A 310 = some .sill ∧ (s (-2100)).sillTest .A 290 = some .sill ∧
      demo.sillTest .A 10 = some .level := by decide +kernel

/-- The worked charge of 09: travel, volume, water charge, shares and own charges. -/
theorem test_worked_charge :
    let snap : Snapshot := ⟨1, ⟨⟨800, 25⟩, ⟨1500, 40⟩, ⟨0, 0⟩, ⟨0, 0⟩⟩, 35, 2, 125, true⟩
    travelOf (some 6140) (some 1320) = 4820 ∧ volumeOf 2375 4820 = 11447 ∧ waterChargeOf 11447 35 = 4006 ∧
      waterShares 4006 [860, 754, 123] = [1983, 1739, 284] ∧ ownCharge snap .cargo 860 = 6175 ∧
      ownCharge snap .cargo 754 = 5675 ∧ ownCharge snap .pleasure 123 = 1406 := by decide +kernel

/-- The tie and the exempt lockage of 09. -/
theorem test_worked_limits :
    waterShares 101 [400, 400] = [51, 50] ∧ waterShares 2530 [0, 0] = [0, 0] ∧ unallocatedWater 2530 [0, 0] = 2530 := by
  decide +kernel

/-- The clock's roll at the end of the last day (R151). -/
theorem test_clock_rolls : LockTime.tick ⟨65535, 86399, 6⟩ = ⟨0, 0, 0⟩ := by decide

/-- A frame as the manual lays it out is read back, and one bit wrong is not (R182, R183). -/
theorem test_frames : readFrame (frameBytes 3 9 [7]) = some (3, 9, [7]) ∧ readFrame [0xC3, 2, 3, 9, 0, 0] = none := by
  decide +kernel

/-- A lock time at the ends of its ranges, and the codes of R186 in a CLAIM's reply (R182, R189). -/
theorem test_bodies :
    lockTimeBytes ⟨258, 86399, 6⟩ = [0x01, 0x02, 0x0A, 0x8B, 0xFE] ∧
      replyDataBytes (.claimed (some .centre) (some .desk)) = [2, 1] := by decide +kernel

/-- An answer counts by its ready value and the check formed over its 17 bytes (R27, R28). -/
theorem test_answer_counts :
    let a : ConverterAnswer := ⟨Config.converterReady, .all ⟨12345, 4000⟩, 0⟩
    answerCounts { a with check := check16 (answerBytes a) } = true ∧ (answerBytes a).length = 17 := by
  simp [answerCounts, answerBytes, Place.all, be16]

set_option maxRecDepth 20000 in
/-- A new block passes every check, a store that does not answer fails the first (R203). -/
theorem test_blocks : storedFault Config.newBlock = none ∧ storedFault (List.replicate 99 0xFF#8) = some .format := by
  decide +kernel

/-- The sluice of 01's worked sequence: HOLD places a STOP and the deadline stays. -/
theorem test_sluice_stopped :
    let s := dev demo (.sluice .A .lower) fun r =>
      { r with position := .opening, outstanding := some (.move .toOpen), awaitingDone := true, travelDeadline := some 90100 }
    let r := ((s.stopRequest (.sluice .A .lower)).dev (.sluice .A .lower))
    r.position = .opening ∧ r.outstanding = some .stop ∧ r.queued = some ⟨.stop, 0⟩ ∧ r.travelDeadline = some 90100 := by
  decide +kernel

/-! ### Ill-formed commands -/

def bare : Registration := ⟨[0x41], none, 30, 20, 10, 0, none⟩
def change : Amendment := ⟨30, 20, 10, none, 0⟩
def long : Mark := List.replicate 9 0x41

theorem test_illFormed_vessels :
    (Instr.addVessel 0 desk none 256 none).wellFormed = false ∧ (Instr.addVessel 0 desk none 1 (some long)).wellFormed = false ∧
    (Instr.closeEntry 0 desk none (List.replicate 249 (1, none))).wellFormed = false ∧
    (Instr.closeEntry 0 desk none [(256, none)]).wellFormed = false ∧
    (Instr.closeEntry 0 desk none [(1, some long)]).wellFormed = false ∧
    (Instr.registerVessel 0 desk { bare with mark := long }).wellFormed = false ∧
    (Instr.registerVessel 0 desk { bare with length := 65536 }).wellFormed = false ∧
    (Instr.registerVessel 0 desk { bare with beam := 65536 }).wellFormed = false ∧
    (Instr.registerVessel 0 desk { bare with draught := 65536 }).wellFormed = false ∧
    (Instr.registerVessel 0 desk { bare with account := 256 }).wellFormed = false ∧
    (Instr.amendVessel 0 desk 256 none change).wellFormed = false ∧
    (Instr.amendVessel 0 desk 1 (some long) change).wellFormed = false ∧
    (Instr.amendVessel 0 desk 1 none { change with length := 65536 }).wellFormed = false ∧
    (Instr.amendVessel 0 desk 1 none { change with beam := 65536 }).wellFormed = false ∧
    (Instr.amendVessel 0 desk 1 none { change with draught := 65536 }).wellFormed = false ∧
    (Instr.amendVessel 0 desk 1 none { change with account := 256 }).wellFormed = false ∧
    (Instr.withdrawVessel 0 desk 256 none).wellFormed = false ∧ (Instr.withdrawVessel 0 desk 1 (some long)).wellFormed = false ∧
    (Instr.readVessel 0 desk 256 none).wellFormed = false ∧ (Instr.readVessel 0 desk 1 (some long)).wellFormed = false ∧
    (Instr.readQueue 0 desk none 256).wellFormed = false := by decide +kernel

theorem test_illFormed_others :
    (Instr.setAdmission 0 desk none 256).wellFormed = false ∧
    (Instr.loadConfiguration 0 desk (List.replicate 249 0) ⟨none, none⟩).wellFormed = false ∧
    (Instr.loadConfiguration 0 desk [] ⟨some [], none⟩).wellFormed = false ∧
    (Instr.loadConfiguration 0 desk [] ⟨none, some []⟩).wellFormed = false ∧
    (Instr.setTime 0 desk 65536 0 0).wellFormed = false ∧ (Instr.setTime 0 desk 0 2097152 0).wellFormed = false ∧
    (Instr.setTime 0 desk 0 0 8).wellFormed = false ∧
    (Instr.loadTariff 0 toll { tariff with version := 65536 } none).wellFormed = false ∧
    (Instr.loadTariff 0 toll { tariff with bandMap := [] } none).wellFormed = false ∧
    (Instr.loadTariff 0 toll { tariff with bandMap := List.replicate 168 256 } none).wellFormed = false ∧
    (Instr.loadTariff 0 toll tariff (some ⟨65536, 0⟩)).wellFormed = false ∧
    (Instr.blockAccount 0 toll 256).wellFormed = false ∧ (Instr.unblockAccount 0 toll 256).wellFormed = false ∧
    (Instr.takeRecord 0 toll (some 4294967296)).wellFormed = false ∧
    (Instr.readPeriodImage 0 toll 256).wellFormed = false ∧ (Instr.readStatus 0 desk 256).wellFormed = false ∧
    (Instr.readAccount 0 desk 256).wellFormed = false ∧ (Instr.unknownCommand 0 .desk 1 0).wellFormed = false ∧
    (Instr.frameInvalid 0 .desk (arrived 0 [0])).wellFormed = false ∧
    (Instr.frameInvalid 0 .desk (arrived 0 (frameBytes 3 9 []))).wellFormed = false ∧
    (Instr.frameInvalid 0 .desk (arrived 0 (0xC3 :: List.replicate 254 0))).wellFormed = false ∧
    (Instr.frameInvalid 0 .desk (arrived 1 [0xC3, 1])).wellFormed = false ∧
    (Instr.frameInvalid 0 .desk [⟨0xC3, 21⟩, ⟨1, 0⟩]).wellFormed = false ∧
    (Instr.frameGapTimeout 0 .desk (arrived 20 [0xC3, 1])).wellFormed = false ∧
    (Instr.frameGapTimeout 0 .desk []).wellFormed = false ∧ (Instr.startAnswer 0 256 true).wellFormed = false ∧
    (Instr.stopAnswer 0 256 true).wellFormed = false ∧ (Instr.statusReply 0 256 .opened false false).wellFormed = false ∧
    (Instr.scanCompletion 0 ⟨0, .all ⟨25001, 0⟩, 0⟩).wellFormed = false := by decide +kernel

/-! ### Witnesses: states and operands that meet the hypotheses of the statements -/

/-- A command is waiting while a transaction is on the line. -/
def busy : State := { line demo (.gate .A .upper) .status with pending := [.holderSilence 0 .A] }

theorem witness_idle : State.reset.pending = [] := rfl

theorem witness_OneTransactionKept : OneTransaction busy ∧ ∃ t, step busy = .next t := by
  refine ⟨⟨⟨fun h => absurd h (by decide), fun h => absurd (h (.gate .A .upper)) (by decide)⟩, fun d e hd he => ?_⟩, _, rfl⟩
  have only : ∀ x, (busy.dev x).onLine ≠ none → x = .gate .A .upper := forall_device (by decide +kernel)
  exact (only d hd).trans (only e he).symm

theorem witness_StartsAreSafe :
    let s := dev demo (.sluice .A .upper) fun r => { r with queued := some ⟨.start .toClose, 0⟩ }
    ∃ t, step { s with pending := [.sillBeamClear 60 .A .upper] } = .next t ∧
      (t.dev (.sluice .A .upper)).onLine = some (.start .toClose) ∧
      (s.dev (.sluice .A .upper)).onLine ≠ some (.start .toClose) := ⟨_, rfl, by decide +kernel⟩

theorem witness_LevelsSoundKept : LevelsSound busy ∧ ∃ t, step busy = .next t :=
  ⟨⟨fun p i => by cases p <;> rename_i x <;> cases x <;> cases i <;> trivial,
    fun p => by
      cases p <;> rename_i x <;> cases x <;> exact ⟨(fun y (h : none = some y) => nomatch h), (fun y (h : none = some y) => nomatch h)⟩,
    fun c e => by cases c <;> cases e <;> decide⟩, _, rfl⟩

theorem witness_SequencersSoundKept : SequencersSound (at' .entry .waiting) ∧ ∃ t, step (at' .entry .waiting) = .next t :=
  ⟨fun c => by
    cases c <;>
      exact ⟨by decide, (fun p (h : none = some p) => nomatch h), by decide, fun p (h : none = some p) => nomatch h⟩, _, rfl⟩

theorem witness_HeadsLitKept : HeadsLit busy ∧ ∃ t, step busy = .next t :=
  ⟨fun _ h => by rcases h with ⟨c, e, x⟩; cases c <;> cases e <;> cases x <;> exact ⟨rfl, rfl, rfl⟩, _, rfl⟩

/-- Chamber A in ENTRY with its lower gate OPEN: a head shows GREEN before and after a command that changes nothing. -/
theorem witness_HeadsLitKept_green :
    let s := (dev (at' .entry .waiting) (.gate .A .lower) fun r => { r with position := .opened }).lightHeads
    HeadsLit s ∧ ∃ t, step { s with pending := [.holderSilence 0 .A] } = .next t ∧ t.isHeld = false ∧
      (PerHead.get t.heads ⟨.A, .lower, .outer⟩).shown = .green ∧ (t.seq .A).lockage.isSome = true :=
  ⟨fun _ h => by rcases h with ⟨c, e, x⟩; cases c <;> cases e <;> cases x <;> exact ⟨rfl, rfl, rfl⟩, _, rfl,
    by decide +kernel⟩

theorem witness_RetainedBlocksKept : ClockInRange busy ∧ AccountsBounded busy ∧ JournalSound busy ∧ ∃ t, step busy = .next t := by
  refine ⟨⟨by decide, by decide, by decide⟩,
    ⟨by decide +kernel, fun a h => ?_, by decide, by decide, by decide⟩,
    ⟨by decide, by decide⟩, _, rfl⟩
  obtain rfl : a = .initial := List.eq_of_mem_replicate h
  exact ⟨by decide, by decide⟩

theorem witness_NoticesDistinctKept : NoticesDistinct busy ∧ ∃ t, step busy = .next t :=
  ⟨fun l => by cases l <;> exact List.Pairwise.nil, _, rfl⟩

theorem witness_ReadsOnlyAnswer :
    Ready rich desk ∧ Ready rich toll ∧ desk.lengthMatches = true ∧ toll.lengthMatches = true ∧ desk.link ≠ .toll ∧
      toll.link = .toll ∧ rich.acct.journal = [posted] ∧ rich.acct.image.contents.isSome = true ∧
      (∀ k ∈ [1, 2, 3, 4, 5], (rich.sectionData? k).isSome = true) ∧
      rich.vessel? 1 = some cargo ∧ rich.charge.current = some tariff ∧ rich.charge.pending.isSome = true :=
  ⟨⟨rfl, rfl⟩, ⟨rfl, rfl⟩, by decide +kernel⟩

/-- An ASSIGNED vessel with its place in the plan, and a SAVED one with its place in the second plan of the stack. -/
theorem witness_ReadsOnlyAnswer_places :
    let s := at' .entry (.assigned .A)
    let u := (at' .hold (.saved .A)).setStack .A [⟨.up, ⟨0, 0, 0⟩, [2]⟩, ⟨.up, ⟨0, 0, 0⟩, [3, 1]⟩]
    Ready s desk ∧ Ready u desk ∧ (s.vessel? 1).map (·.state) = some (.assigned .A) ∧ (s.seq .A).lockage = some record ∧
      standsAt 1 (record.plan.map (·.handle)) 1 ∧ (u.vessel? 1).map (·.state) = some (.saved .A) ∧
      (u.traffic.planStacks.get .A)[2 - 1]? = some ⟨.up, ⟨0, 0, 0⟩, [3, 1]⟩ ∧
      (∀ q ∈ (u.traffic.planStacks.get .A).take (2 - 1), 1 ∉ q.handles) ∧ standsAt 1 [3, 1] 2 :=
  ⟨⟨rfl, rfl⟩, ⟨rfl, rfl⟩, rfl, rfl, ⟨by decide, rfl, by decide⟩, rfl, rfl, by decide +kernel, ⟨by decide, rfl, by decide⟩⟩

theorem witness_LoadTariffWritesSlots :
    Ready demo toll ∧ toll.lengthMatches = true ∧ toll.link = .toll ∧ tariffOk tariff = true ∧
      tariff.version ≠ versionOf demo.charge.current := ⟨⟨rfl, rfl⟩, by decide +kernel⟩

theorem witness_SetTimeSetsClock : Ready demo desk ∧ desk.lengthMatches = true ∧ desk.link ≠ .toll := ⟨⟨rfl, rfl⟩, by decide⟩

theorem witness_ClockTickAdvances :
    demo.charge.clock.nextTick ≤ demo.now + 1000 ∧ demo.isHeld = false ∧
      (demo.holdPart ⟨true, false, false, false, 0, 0⟩).isHeld = true := by decide

theorem witness_AccountRequestsAct :
    Ready rich toll ∧ toll.lengthMatches = true ∧ toll.link = .toll ∧ rich.acct.accounts.length = 256 ∧ 1 ≤ 255 ∧
      rich.acct.journal = [posted] ∧ 0 ≠ posted.serial := ⟨⟨rfl, rfl⟩, by decide +kernel⟩

theorem witness_PostingAddsUp :
    1 ≤ demo.acct.accounts.length ∧ demo.acct.accounts[7]? = some .initial ∧ demo.acct.accounts[0]? = some .initial ∧
      Account.initial.bounded := ⟨by decide +kernel, rfl, rfl, by decide, by decide⟩

theorem witness_TotalsOnlyGrow :
    AccountsBounded demo ∧ (∃ t, step { demo with pending := [.closePeriod 0 toll] } = .next t) ∧
      (∃ t, step { demo with pending := [.scanStart 0] } = .next t) ∧
      findsFirst (.frameInvalid 0 .toll (arrived 0 (0xC3 :: frameBytes 30 1 []))) .toll 30 :=
  ⟨witness_RetainedBlocksKept.2.1, ⟨_, rfl⟩, ⟨_, rfl⟩, 0, _, ⟨30, 1, [], 0⟩, rfl, .inl ⟨rfl, by decide +kernel⟩⟩

theorem witness_InsertionKeepsQueueOrder :
    let s : State := { demo with traffic := { demo.traffic with vessels := [cargo, { cargo with handle := 2 }] } }
    s.vessel? 2 = some { cargo with handle := 2 } ∧ 2 ∉ [1] ∧ (∀ h ∈ [1], (s.vessel? h).isSome = true) ∧ queueOrdered s [1] :=
  ⟨by decide +kernel, by decide, by decide +kernel, List.pairwise_singleton _ _⟩

theorem witness_OwnChargeOfEntry :
    (VesselClass.cargo, (⟨1500, 40⟩ : Rate)) ∈ [(VesselClass.pleasure, (⟨800, 25⟩ : Rate)), (.cargo, ⟨1500, 40⟩)] ∧
      861 ≤ 10 * 87 ∧ 10 * 87 < 861 + 10 ∧ 400 ≤ 400 ∧ 861 ≤ 2000 := by decide

theorem witness_WaterIsSharedOut :
    ([400, 400, 0] : List Nat)[0]? = some 400 ∧ (waterShares 101 [400, 400, 0])[0]? = some 51 ∧
      (waterShares 101 [400, 400, 0])[1]? = some 50 ∧ (waterShares 101 [400, 400, 0])[2]? = some 0 ∧
      ([400, 400, 0] : List Nat).sum ≠ 0 ∧ ([0] : List Nat).sum = 0 := by decide +kernel

/-- The marks of the worked charge of 09 and of the worked exchange of 08, and marks at the two ends of the level range (R161, R85). -/
theorem witness_WaterIsSharedOut_record :
    let l : LockageRecord :=
      { record with
        startMark := some 6140, endMark := some 1320, crossUsed := true, crossStart := some ⟨6140, 1320⟩
        crossEnd := some ⟨4330, 4185⟩ }
    let r := demo.chargeRecord .A l [cargo]
    (demo.cfg.chambers.get .A).planArea = 2375 ∧ r.travel = 4820 ∧ r.volume = 11447 ∧ r.crossVolume = some 4298 ∧
      (demo.chargeRecord .A { l with startMark := some (-20000), endMark := some 20000 } []).travel = 20000 ∧
      (demo.chargeRecord .A { l with startMark := none } []).travel = 0 ∧ r.serial = 1 ∧ r.entries.length = 1 := by
  decide +kernel

/-- A registration at the edges of the ranges of R104. -/
def entry (cls : VesselClass) : Registration := ⟨[0x5A], some cls, 30, 20, 600, 255, some .up⟩

theorem witness_RegisterVesselFillsRecord (cls : VesselClass) (h : cls = .cargo ∨ cls = .emergency) :
    let s := waiting .idle
    Ready s desk ∧ desk.lengthMatches = true ∧ desk.link ≠ .toll ∧ (entry cls).cls = some cls ∧ markOk (entry cls).mark = true ∧
      dimensionsOk (entry cls).length (entry cls).beam (entry cls).draught (entry cls).account = true ∧
      (∀ v ∈ s.traffic.vessels, v.mark ≠ (entry cls).mark) ∧ s.configValid = true ∧
      s.fitsSome (entry cls).length (entry cls).beam = true ∧ (s.account 255).blocked = false ∧ s.vessel? 2 = none ∧
      ∀ k, 1 ≤ k → k < 2 → (s.vessel? k).isSome = true := by
  refine ⟨⟨rfl, rfl⟩, rfl, by decide, rfl, ?_, ?_, ?_, rfl, ?_, rfl, rfl, fun k h1 h2 => ?_⟩
  all_goals first
    | (obtain rfl : k = 1 := by omega); rfl
    | rcases h with rfl | rfl <;> decide +kernel

/-- An EMERGENCY vessel waits for the upward direction; chamber A is in a phase with an empty plan of a direction. -/
def hasty (p : Phase) (d : Direction) : State :=
  let s := (waiting p).modLockage .A fun l => { l with direction := d }
  { s with traffic := { s.traffic with vessels := [{ cargo with cls := .emergency }] } }

/-- Each way of emergency handling has a chamber that it takes, and one that it does not. -/
theorem witness_EmergencyHandling :
    let v : Vessel := { cargo with cls := .emergency }
    ((hasty .idle .up).vessel? 1 = some v ∧ v.state = .waiting ∧ v.cls = .emergency) ∧ (waiting .idle).vessel? 1 = some cargo ∧
      (∃ l, letsJoin (hasty .forming .up) .A v l) ∧ (∀ l, ¬letsJoin (hasty .idle .up) .A v l) ∧
      chosenForStart (hasty .idle .up) .A v ∧ ¬chosenForStart (hasty .forming .up) .A v ∧
      (∃ l, chosenForPreemption (hasty .turning .down) .A v l) ∧ ∀ l, ¬chosenForPreemption (hasty .entry .down) .A v l :=
  ⟨by decide +kernel, by decide +kernel, ⟨_, by decide +kernel, rfl, rfl, by decide +kernel, by decide +kernel⟩,
    fun l h => absurd h.1 (by decide +kernel),
    ⟨rfl, rfl, by decide +kernel, rfl, ⟨by decide +kernel, by decide +kernel, by decide +kernel⟩, by decide +kernel⟩,
    fun h => absurd h.2.1 (by decide +kernel),
    ⟨_, rfl, by decide +kernel, by decide +kernel, rfl, by decide +kernel, by decide +kernel, by decide +kernel,
      ⟨by decide +kernel, by decide +kernel, by decide +kernel⟩, by decide +kernel⟩,
    fun l h => absurd h.2.2.1 (by decide +kernel)⟩

theorem witness_AmendVesselRewritesRecord :
    let s := waiting .idle
    Ready s desk ∧ desk.link ≠ .toll ∧ s.vessel? 1 = some cargo ∧ cargo.state = .waiting ∧ dimensionsOk 2000 20 10 0 = true ∧
      dimensionsOk 30 20 10 0 = true ∧ s.configValid = true ∧ s.fitsSome 30 20 = true ∧ (s.account 0).blocked = false :=
  ⟨⟨rfl, rfl⟩, by decide +kernel⟩

theorem witness_WithdrawVesselDeletesVessel :
    (∀ v ∈ [VesselState.waiting, .saved .A, .assigned .A],
      ((at' .entry v).vessel? 1).map (·.state) = some v ∧ (at' .entry v).isHeld = false) ∧
      ((at' .entry .waiting).seq .A).planWindow = true ∧ ((at' .entry .waiting).seq .A).lockage = some record := by
  decide +kernel

theorem witness_AddVesselTakesVessel :
    let s := waiting .entry
    let full : State := { s with acct := { s.acct with reservations := 62 } }
    ∃ l, Ready s desk ∧ s.holder .A = some .desk ∧ (s.seq .A).planWindow = true ∧ s.vessel? 1 = some cargo ∧
      (s.seq .A).lockage = some l ∧ l.direction = cargo.direction ∧ firstFailed s .A l cargo = none ∧
      hasSpace s l cargo = true ∧ Ready full desk ∧ (full.seq .A).lockage = some l ∧ firstFailed full .A l cargo = none ∧
      hasSpace full l cargo = false ∧ firstFailed s .A l { cargo with beam := 250 } = some .beam :=
  ⟨_, ⟨rfl, rfl⟩, rfl, rfl, rfl, rfl, rfl, by decide +kernel, by decide +kernel, ⟨rfl, rfl⟩, rfl, by decide +kernel⟩

theorem witness_LoadConfigurationWritesStore :
    let s := (demo.modSeq .A fun q => { q with phase := .outOfService }).modSeq .B fun q => { q with phase := .outOfService }
    Ready s desk ∧ desk.link = .desk ∧ s.phase .A = .outOfService ∧ s.phase .B = .outOfService ∧
      loadable (Config.newBlock.take 95) = true ∧ loadable [] = false ∧
      [] ≠ withCheck (Config.newBlock.take 95) ∧
      Ready s ⟨.centre, 1, true⟩ ∧ Frame.link ⟨.centre, 1, true⟩ ≠ .desk ∧ demo.phase .A ≠ .outOfService :=
  ⟨⟨rfl, rfl⟩, rfl, rfl, rfl, by decide +kernel, by decide +kernel, by simp [withCheck, Config.newBlock], ⟨rfl, rfl⟩, by decide,
    by decide⟩

set_option maxRecDepth 20000 in
/-- R206 states the length of LOAD CONFIGURATION, so the frame's own mark of a matching length has no say. -/
theorem test_loadConfiguration_length :
    let s := (demo.modSeq .A fun q => { q with phase := .outOfService }).modSeq .B fun q => { q with phase := .outOfService }
    ∃ t, exec (.loadConfiguration 0 ⟨.desk, 1, false⟩ (Config.newBlock.take 95) ⟨none, none⟩) s = .next t ∧
      t.start.reconfigurePending = true := ⟨_, rfl, by decide +kernel⟩

set_option maxRecDepth 20000 in
/-- R206 with R203: the write completes, but the store does not answer the read-back, which brings all ones. -/
theorem test_loadConfiguration_silentStore :
    let s := (demo.modSeq .A fun q => { q with phase := .outOfService }).modSeq .B fun q => { q with phase := .outOfService }
    let block := Config.newBlock.take 95
    ∃ t, exec (.loadConfiguration 0 desk block ⟨none, some (List.replicate 99 0xFF#8)⟩) s = .next t ∧
      (t.port .desk).reply.map (·.result) = some .condition ∧ t.start.store = withCheck block ∧
      t.start.reconfigurePending = false := ⟨_, rfl, by decide +kernel⟩

theorem witness_LampCheckClearsLatches : Ready demo desk ∧ desk.lengthMatches = true ∧ desk.link = .desk := ⟨⟨rfl, rfl⟩, rfl, rfl⟩

theorem witness_ClaimGainsOrWaits (h : Option Operator) :
    let s := demo.setAuth .A ⟨h, none, false⟩
    Ready s desk ∧ desk.link.operator? = some .desk ∧ s.holder .A = h ∧ (s.auth.get .A).releaseWaiting = false :=
  ⟨⟨rfl, rfl⟩, rfl, rfl, rfl⟩

theorem witness_ReleaseLosesHandsOverOrWaits (a : Authority) (_ : a.holder = some .desk ∨ a.pendingClaim = some .desk) :
    Ready (demo.setAuth .A a) desk ∧ (demo.setAuth .A a).auth.get .A = a := ⟨⟨rfl, rfl⟩, rfl⟩

/-- SEIZE from the other holder in a sequencing phase, from none while a gate moves, from none with nothing moving, and by the holder. -/
theorem witness_SeizeMakesDeskHolder :
    let other := (at' .turning .waiting).setAuth .A ⟨some .centre, some .desk, true⟩
    let moving := dev demo (.gate .A .upper) fun r => { r with position := .closing }
    Ready other desk ∧ Ready moving desk ∧ desk.lengthMatches = true ∧ desk.link = .desk ∧ other.holder .A = some .centre ∧
      other.phase .A ∈ [Phase.turning, .preLevelling, .entryOpening, .entry, .entryClosing, .crossing, .levelling, .exitOpening] ∧
      moving.holder .A = none ∧ (∃ d ∈ Chamber.A.devices, (moving.dev d).position = .opening ∨ (moving.dev d).position = .closing) ∧
      demo.holder .A = none ∧ demo.phase .A = .idle ∧
      (∀ d ∈ Chamber.A.devices, (demo.dev d).position ≠ .opening ∧ (demo.dev d).position ≠ .closing) ∧
      (at' .turning .waiting).holder .A = some .desk ∧
      ∃ t, exec (.seize 0 desk (some .A)) other = .next t ∧ t.phase .A = .hold ∧ t.auth.get .A = ⟨some .desk, none, false⟩ :=
  ⟨⟨rfl, rfl⟩, ⟨rfl, rfl⟩, rfl, rfl, rfl, by decide +kernel, rfl, by decide +kernel, rfl, rfl, by decide +kernel, rfl, _, rfl,
    by decide +kernel⟩

theorem witness_SilencesExpire :
    let s := (demo.setAuth .A ⟨some .desk, some .centre, true⟩).modPort .desk fun p => { p with lastFrame := some 0 }
    let u := s.modPort .centre fun p => { p with lastFrame := some 0 }
    s.isHeld = false ∧ s.start.image = some (readBlock Config.newBlock) ∧ (s.port Operator.desk.link).lastFrame = some 0 ∧
      (u.port Operator.centre.link).lastFrame = some 0 ∧ 0 + s.cfg.holderSilenceLimit * 1000 ≤ s.now + 30000 ∧
      s.holder .A = some .desk ∧ (u.auth.get .A).pendingClaim = some .centre := by decide +kernel

theorem witness_StartLockageEntersForming :
    let s := waiting .idle
    Ready s desk ∧ desk.link.operator? = some .desk ∧ s.holder .A = some .desk ∧ s.phase .A = .idle ∧ s.start.stage = .ended :=
  ⟨⟨rfl, rfl⟩, rfl, rfl, rfl, rfl⟩

theorem witness_CloseEntryBoardsTheRest :
    let s := at' .entry (.assigned .A)
    Ready s desk ∧ s.holder .A = some .desk ∧ s.phase .A = .entry ∧ (s.seq .A).lockage = some record ∧
      s.listFault .A [(1, some cargo.mark)] = none ∧ s.listFault .A [] = none ∧ (∀ e, s.traffic.queues.get e = []) :=
  ⟨⟨rfl, rfl⟩, rfl, rfl, rfl, by decide +kernel, by decide +kernel, fun e => by cases e <;> rfl⟩

theorem witness_ExitDoneEndsLockage :
    let s := at' .exit (.aboard .A)
    let t := s.setStack .A [⟨.down, ⟨0, 0, 0⟩, [1]⟩]
    Ready s desk ∧ Ready t desk ∧ s.holder .A = some .desk ∧ s.phase .A = .exit ∧ (s.seq .A).lockage = some record ∧
      s.traffic.planStacks.get .A = [] ∧ t.traffic.planStacks.get .A = [⟨.down, ⟨0, 0, 0⟩, [1]⟩] :=
  ⟨⟨rfl, rfl⟩, ⟨rfl, rfl⟩, rfl, rfl, rfl, rfl, rfl⟩

theorem witness_HoldOrdersHold :
    (at' .crossing .waiting).phase .A = .crossing ∧ (holding .empty).phase .A = .hold ∧ demo.phase .B = .idle ∧
      (at' .safing .waiting).phase .A = .safing ∧ (at' .lockedOut .waiting).phase .A = .lockedOut ∧
      Ready (at' .crossing .waiting) desk ∧ (at' .crossing .waiting).holder .A = some .desk :=
  ⟨rfl, rfl, rfl, rfl, rfl, ⟨rfl, rfl⟩, rfl⟩

theorem witness_ResumeAndAbandonLeaveHold :
    let s := holding (HoldSet.empty.put .commanded true)
    Ready s desk ∧ s.holder .A = some .desk ∧ s.phase .A = .hold ∧ (s.seq .A).holds.resumable = true ∧
      (s.seq .A).resume = some .levelling ∧ (s.seq .A).holds.fault = false ∧ s.traffic.planStacks.get .A = [] ∧
      ((s.setStack .A [⟨.down, ⟨0, 0, 0⟩, [1]⟩]).traffic.planStacks.get .A).length = 1 := ⟨⟨rfl, rfl⟩, by decide +kernel⟩

/-- A queue of one vessel beside the plan that ABANDON gives back, at a chamber whose plan has an ASSIGNED and an ABOARD vessel. -/
theorem witness_ResumeAndAbandonLeaveHold_queue :
    let s0 := holding (HoldSet.empty.put .commanded true)
    let s : State :=
      { s0.modLockage .A fun l => { l with plan := [⟨1, true⟩, ⟨2, false⟩] } with
        traffic :=
          { s0.traffic with
            vessels := s0.traffic.vessels ++ [{ cargo with handle := 2, state := .assigned .A }, { cargo with handle := 3 }]
            queues := ⟨[], [3]⟩ } }
    (s.seq .A).lockage.map (fun l => l.plan.map (·.handle)) = some [1, 2] ∧ [1, 2].Nodup ∧
      (s.vessel? 1).map (·.state) = some (.aboard .A) ∧ (s.vessel? 2).map (·.state) = some (.assigned .A) ∧
      s.traffic.queues.get .lower = [3] ∧ (3 ∉ [1, 2] ∧ (s.vessel? 3).isSome = true) ∧ queueOrdered s [3] ∧
      (s.abandonPlan .A).traffic.queues.get .lower = [2, 3] :=
  ⟨by decide +kernel, by decide, by decide +kernel, by decide +kernel, by decide +kernel, by decide +kernel,
    List.pairwise_singleton _ _, by decide +kernel⟩

/-- A FAULTED device of the chamber, and one that is not; in LOCKED_OUT a device at rest, one with a queued START, one that awaits
DONE, and one whose STOP is queued (R8). -/
theorem witness_AcknowledgementsQuery :
    let s := dev (dev (holding (HoldSet.empty.put .fault true)) .xv fun r => { r with position := .faulted }) (.gate .A .upper)
      fun r => { r with position := .faulted, faultKind := some .noResponse }
    let u := at' .lockedOut .waiting
    let r := u.dev (.gate .A .upper)
    Ready s desk ∧ s.holder .A = some .desk ∧ s.phase .A = .hold ∧ (s.seq .A).holds.fault = true ∧
      (s.dev .xv).position = .faulted ∧ (s.dev (.gate .A .upper)).position = .faulted ∧
      (s.dev (.gate .A .lower)).position ≠ .faulted ∧ desk.link = .desk ∧ Ready u desk ∧ u.phase .A = .lockedOut ∧
      (queryMade r 5).queued = some ⟨.status, 5⟩ ∧
      queryMade { r with outstanding := some (.move .toOpen), queued := some ⟨.start .toOpen, 3⟩, nextStart := some .toClose } 5 =
        { r with queued := some ⟨.status, 5⟩, queryFlag := true } ∧
      (queryMade { r with outstanding := some .stop, awaitingDone := true } 5).queued = some ⟨.status, 5⟩ ∧
      (queryMade { r with outstanding := some .stop, queued := some ⟨.stop, 3⟩ } 5).queued = some ⟨.stop, 3⟩ :=
  ⟨⟨rfl, rfl⟩, rfl, rfl, rfl, rfl, rfl, by decide +kernel, rfl, ⟨rfl, rfl⟩, rfl, by decide +kernel⟩

/-- A step wait for the upper gate; with its upper outer head dark. -/
def stepping (dark : Bool) : State :=
  let s := (at' .entryOpening .waiting).modSeq .A fun q =>
    { q with stepMode := .step, stepWait := some (.gate .A .lower, .toOpen) }
  { s with heads := PerHead.of fun h =>
      { PerHead.get s.heads h with lamps := ⟨⟨true, dark, 0, false, 0⟩, ⟨false, dark, 0, false, 0⟩, .initial false⟩ } }

theorem witness_SetModeAndAdvance :
    Ready (stepping true) desk ∧ (stepping true).holder .A = some .desk ∧ (stepping true).phase .A ≠ .lockedOut ∧
      advanceable ((stepping true).phase .A) = true ∧ ((stepping true).seq .A).stepWait = some (.gate .A .lower, .toOpen) ∧
      (stepping true).governedDark .A = true ∧ (stepping false).governedDark .A = false ∧
      ((stepping false).dev (.gate .A .lower)).position ≠ .faulted ∧ (stepping false).isBarred (.gate .A .lower) = false ∧
      ((stepping false).dev (.gate .A .lower)).atRest = true ∧ (stepping false).reached (.gate .A .lower) .toOpen = false :=
  ⟨⟨rfl, rfl⟩, by decide +kernel⟩

theorem witness_ServiceAndAdmission :
    Ready (at' .idle .waiting) desk ∧ (at' .idle .waiting).holder .A = some .desk ∧ (at' .idle .waiting).phase .A = .idle ∧
      (at' .outOfService .waiting).phase .A = .outOfService ∧ (at' .outOfService .waiting).configValid = true :=
  ⟨⟨rfl, rfl⟩, rfl, rfl, rfl, rfl⟩

theorem witness_RefusalsChangeNothing :
    requestOf (.exitDone 0 desk (some .B)) = some (0, desk, 8) ∧ Ready demo desk ∧ desk.link.operator? = some .desk ∧
      demo.holder .B ≠ some .desk ∧ ∃ t r, exec (.exitDone 0 desk (some .B)) demo = .next t ∧
        (t.port desk.link).reply = some r ∧ r.result ≠ .ok :=
  ⟨rfl, ⟨rfl, rfl⟩, rfl, by decide, _, _, rfl, rfl, by decide⟩

theorem witness_LinkPortEvents :
    let s := demo.modPort .desk fun p => { p with reply := some ⟨129, 0, .ok, .none⟩, sending := some .reply }
    let u := s.modPort .desk fun p => { p with busy := some ⟨129, 0, .busyLink, .none⟩ }
    demo.isHeld = false ∧ (demo.port .desk).reply = none ∧ isRequestCode 24 = false ∧ isRequestCode 37 = false ∧
      (s.port .desk).reply ≠ none ∧ (s.port .desk).busy = none ∧ (u.port .desk).reply ≠ none ∧
      (u.port .desk).busy ≠ none ∧ (s.port .desk).sending = some .reply ∧ s.start.reconfigurePending = false ∧
      (replyDataBytes (.claimed (some .desk) none)).length ≤ 247 ∧ (noticeDataBytes (.levelQuality [])).length ≤ 247 ∧
      86399 * 8 + 6 < 256 ^ 3 := by decide +kernel

/-- Discarded attempts (R183): one without a start byte behind its own, one that ends in another attempt, which only a gap cuts off
too, and one with a valid frame behind junk. -/
theorem witness_LinkPortEvents_receiver :
    readFrame [0xC3, 1] = none ∧ startByte ∉ [0xC3#8, 1].tail ∧
      searchAgain false [0xC3, 1, 0xC3, 5] = ([], [0xC3, 5]) ∧ searchAgain true [0xC3, 1, 0xC3, 5] = ([], []) ∧
      readFrame (startByte :: ([9] ++ frameBytes 37 7 [])) = none ∧ startByte ∉ [9#8] ∧
      searchAgain false (startByte :: ([9] ++ frameBytes 37 7 [])) = ([⟨37, 7, [], 0⟩], []) ∧
      arrivedInTime false (arrived 0 [0xC3, 1]) = true ∧ arrivedInTime true (arrived 21 [0xC3, 1]) = true ∧
      arrivedInTime false (arrived 1 [0xC3, 1]) = false ∧ arrivedInTime true (arrived 20 [0xC3, 1]) = false := by decide +kernel

/-- R183: a frame found in an attempt that a gap cuts off, with two bytes behind it, was heard when its own last check byte came. -/
theorem test_presence_of_a_found_frame :
    ∃ t, exec (.frameGapTimeout 100 .desk (arrived 21 (startByte :: ([9] ++ frameBytes 37 7 [] ++ [1, 2])))) demo = .next t ∧
      (t.port .desk).lastFrame = some 77 ∧ (t.port .desk).reply.map (·.result) = some .unknownCommand :=
  ⟨_, rfl, by decide +kernel⟩

/-- The four states of a transmitter (R184), with the last sequence number before the roll (R197). -/
theorem witness_LinkPortEvents_transmitter :
    let p := demo.port .desk
    let r : ReplyFrame := ⟨129, 0, .ok, .none⟩
    let n : Notice := ⟨.started, .lock, .levelQuality []⟩
    let q : LinkPort := { p with queue := [n], sequence := 255 }
    p.sending = none ∧ p.reply = none ∧ p.busy = none ∧ p.queue = [] ∧
      ({ q with sending := some .busy } : LinkPort).transmit = { q with sending := some .busy } ∧
      ({ q with reply := some r, busy := some r } : LinkPort).transmit.sending = some .reply ∧
      ({ q with busy := some r } : LinkPort).transmit.sending = some .busy ∧
      q.transmit = { p with sending := some (.notice 255 n), sequence := 0 } := by decide +kernel

/-- One transaction on the line of a state that had none. -/
theorem line_oneTransaction (s : State) (d : Device) (k : Task) (h : ∀ x, (s.dev x).onLine = none) :
    OneTransaction (line s d k) := by
  have self : ((line s d k).dev d).onLine = some k := by simp [line, dev, State.dev, State.setDev]
  have other : ∀ x, x ≠ d → ((line s d k).dev x).onLine = none := fun x hx => by
    have := h x
    simp_all [line, dev, State.dev, State.setDev]
  have only : ∀ x, ((line s d k).dev x).onLine ≠ none → x = d := fun x hx => by
    by_contra hne; exact hx (other x hne)
  exact ⟨⟨fun h => (nomatch (h : some 0 = none)), fun h => absurd (h d) (by rw [self]; simp)⟩,
    fun x e hd he => (only x hd).trans (only e he).symm⟩

theorem demo_line (d : Device) : (demo.dev d).onLine = none :=
  forall_device (p := fun d => (demo.dev d).onLine = none) (by decide +kernel) d

theorem witness_StatusReplySetsPosition (k : Task) : AnswerComes (line demo .xv k) 300 .xv k 9 :=
  ⟨line_oneTransaction demo .xv k demo_line, rfl, rfl, rfl, 0, rfl, Nat.le_refl 300⟩

theorem witness_StartAndStopAnswers :
    (∀ t, AnswerComes (line demo .xv (.start t)) 300 .xv (.start t) 9) ∧ AnswerComes (line demo .xv .stop) 300 .xv .stop 9 :=
  ⟨fun t => witness_StatusReplySetsPosition (.start t), witness_StatusReplySetsPosition .stop⟩

/-- A gate's START CLOSE on the line while its sill beam is not ACTIVE (R21), and the OPEN of the sluice of a levelling visit whose
timer is due (R59). -/
theorem witness_StartAndStopAnswers_after :
    let g : Device := .gate .A .upper
    let x : Device := .sluice .A .lower
    let s := (at' .preLevelling .waiting).modSeq .A fun q => { q with timerDue := true }
    AnswerComes (line demo g (.start .toClose)) 300 g (.start .toClose) 1 ∧ (demo.drive.beams.get .A).get .upper ≠ .active ∧
      (demo.dev g).position ≠ .faulted ∧ AnswerComes (line s x (.start .toOpen)) 300 x (.start .toOpen) 4 ∧
      (s.seq .A).timerDue = true ∧ (s.seq .A).lockage = some record ∧ s.phase .A = .preLevelling ∧
      record.direction.entryEnd = .lower :=
  ⟨⟨line_oneTransaction _ _ _ demo_line, rfl, rfl, by decide +kernel, 0, rfl, Nat.le_refl 300⟩, by decide, by decide,
    ⟨line_oneTransaction _ _ _ demo_line, rfl, rfl, by decide +kernel, 0, rfl, Nat.le_refl 300⟩, rfl, rfl, rfl, rfl⟩

/-- XV FAULTED by a CROSS_CONFLICT during the census keeps it at a clean reply; once the desk has acknowledged it, the reply clears it
(R101, R84). -/
theorem test_conflict_waits_for_the_desk :
    let s := dev (line demo .xv .status) .xv fun r =>
      { r with position := .faulted, faultKind := some .crossConflict, queryFlag := true }
    let u : State := { s with drive := { s.drive with conflictKept := true } }
    (∃ t, exec (.statusReply 10 9 .intermediate false false) u = .next t ∧ (t.dev .xv).position = .faulted ∧
      (t.dev .xv).faultKind = some .crossConflict ∧ (t.dev .xv).queryFlag = false) ∧
    ∃ t v, exec (.acknowledgeFaultCross 0 desk) u = .next t ∧ exec (.statusReply 10 9 .intermediate false false) t = .next v ∧
      (v.dev .xv).position = .stopped := ⟨⟨_, rfl, by decide +kernel⟩, _, _, rfl, rfl, by decide +kernel⟩

theorem witness_NoAnswerFaults (k : Task) :
    AnswerMissing (line demo .xv k) 300 .xv k ∧ (line demo .xv k).isHeld = false ∧ readFrame [0xC3] = none ∧
      demo.answerIn? (frameBytes 129 9 [0]) = none ∧ readFrame (frameBytes 129 8 [0]) = some (129, 8, [0]) ∧
      (line demo .xv .stop).answerIn? (frameBytes 129 9 [0]) = none ∧
      (line demo .xv .stop).answerIn? (frameBytes 130 9 [0]) = some (9, .accept) :=
  ⟨⟨line_oneTransaction demo .xv k demo_line, rfl, rfl, 0, rfl, Nat.le_refl 300⟩, rfl, by decide, by decide +kernel,
    by decide +kernel, by decide +kernel, by decide +kernel⟩

theorem witness_DoneEndsMovement :
    let s := dev { demo with drive := { demo.drive with dones := .all .inactive } } .xv fun r => { r with awaitingDone := true }
    s.isHeld = false ∧ s.drive.dones.get .xv = .inactive ∧ (s.dev .xv).awaitingDone = true ∧ (s.dev .xv).onLine = none ∧
      (s.dev (.gate .A .upper)).awaitingDone = false ∧ demo.drive.dones.get .xv ≠ .inactive ∧
      demo.drive.dones.get .xv = .unknown ∧ (1 ≤ 1 ∧ s.drive.turned.dones.get .xv < s.samplesFrom + 20 * 1 ∧
        s.samplesFrom + 20 * (1 + 2) = s.now + 60) ∧
      ¬(s.samplesFrom + 20 * (1 + 2) ≤ s.now + 59) := by decide

/-- R4: an input takes a value with the third sample after the start and the third after its last change, at no other moment. -/
theorem test_filter_counts_samples :
    let s : State := { demo with drive := { demo.drive with turned := ⟨.all 100, .both (.both 100), .all 100⟩ } }
    let reads (s : State) (dt : Nat) (v : Filtered) : Prop :=
      ∃ t, exec (.limitInputChange dt .xv true) s = .next t ∧ t.drive.limits.get .xv = v
    reads demo 0 .unknown ∧ reads demo 59 .unknown ∧ reads demo 60 .active ∧ reads demo 61 .unknown ∧
      reads s 140 .unknown ∧ reads s 160 .active :=
  ⟨⟨_, rfl, by decide +kernel⟩, ⟨_, rfl, by decide +kernel⟩, ⟨_, rfl, by decide +kernel⟩, ⟨_, rfl, by decide +kernel⟩,
    ⟨_, rfl, by decide +kernel⟩, _, rfl, by decide +kernel⟩

theorem witness_DeadlinesExpire :
    let s := dev demo .xv fun r =>
      { r with outstanding := some (.move .toOpen), awaitingDone := true, travelDeadline := some 120000 }
    let u := dev demo .xv fun r => { r with outstanding := some .stop, awaitingDone := true, travelDeadline := some 120000 }
    let v := dev (dev demo (.sluice .A .upper) fun r => { r with queued := some ⟨.start .toOpen, 0⟩ }) .xv
      fun r => { r with lastClosed := some 0 }
    s.isHeld = false ∧ (s.dev .xv).travelDeadline = some 120000 ∧ (s.dev .xv).position ≠ .faulted ∧ s.isBarred .xv = false ∧
      (s.dev .xv).movementOutstanding = true ∧ (s.dev .xv).queued = none ∧ (u.dev .xv).movementOutstanding = false ∧
      (v.dev (.sluice .A .upper)).queuedStart .toOpen = true ∧ v.deadTimeEnd? .A .upper = some 10000 := by decide +kernel

theorem witness_TransactionChoice :
    let s := dev (dev demo .xv fun r => { r with queued := some ⟨.start .toClose, 0⟩ }) (.sluice .B .upper)
      fun r => { r with queued := some ⟨.start .toClose, 0⟩ }
    let u := dev s (.gate .A .lower) fun r => { r with queued := some ⟨.status, 5⟩ }
    s.nextOnLine = some (.sluice .B .upper) ∧ s.eligible .xv = true ∧ u.nextOnLine = some (.gate .A .lower) ∧
      s.configValid = true ∧ s.isHeld = false ∧ s.drive.sentAt = none ∧ demo.nextOnLine = none ∧
      (dev u .xv fun r => { r with queued := some ⟨.stop, 9⟩ }).nextOnLine = some .xv := by decide +kernel

theorem witness_InputsChange :
    let s := dev demo (.gate .A .upper) fun r => { r with position := .closing, awaitingDone := true }
    demo.isHeld = false ∧ demo.drive.limits.get .xv ≠ .active ∧ demo.drive.limits.get .xv ≠ .inactive ∧
      (demo.drive.beams.get .A).get .upper ≠ .inactive ∧ (demo.drive.beams.get .A).get .upper ≠ .active ∧
      (demo.dev (.gate .A .upper)).position ≠ .closing ∧ (s.drive.beams.get .A).get .upper ≠ .inactive ∧
      (s.dev (.gate .A .upper)).position = .closing ∧ (s.dev (.gate .A .upper)).awaitingDone = true ∧
      (1 ≤ 1 ∧ demo.drive.turned.limits.get .xv < demo.samplesFrom + 20 * 1 ∧
        (demo.drive.turned.beams.get .A).get .upper < demo.samplesFrom + 20 * 1 ∧
        demo.samplesFrom + 20 * (1 + 2) = demo.now + 60) ∧
      ¬(demo.samplesFrom + 20 * (1 + 2) ≤ demo.now + 59) := by decide

/-- Every limit reads `v`, and the trips, armed or not, have found it so since the given moment. -/
def tripped (armed : Bool) (v : Filtered) (since : Nat) : State :=
  { demo with drive :=
    { demo.drive with limits := .all v, limitTrips := .both ⟨true, armed, since⟩, crossTrip := ⟨true, armed, since⟩ } }

/-- Samples at 20, 40 and 60 ms after the release, and, for a trip armed at 40 ms, at 60, 80 and 100 ms. -/
theorem witness_TripsFireAndRearm :
    (tripped true .inactive 0).isHeld = false ∧ (tripped true .inactive 0).limitConflict .A = true ∧
      (tripped true .inactive 0).crossConflict = true ∧ (1 ≤ 1 ∧ 0 ≤ 0 + 20 * 1 ∧ 0 + 20 * (1 + 2) ≤ 0 + 60) ∧
      (1 ≤ 3 ∧ 41 ≤ 0 + 20 * 3 ∧ 0 + 20 * (3 + 2) ≤ 0 + 100) ∧
      (tripped false .active 0).limitConflict .A = false ∧ (tripped false .active 0).crossConflict = false ∧
      (∀ c, (tripped false .active 0).drive.limitTrips.get c = ⟨true, false, 0⟩) ∧
      (tripped false .inactive 0).limitConflict .A = true ∧ (tripped false .inactive 0).crossConflict = true ∧
      crossing.phase .A = .crossing ∧ crossing.phase .B = .crossing ∧ (crossing.seq .A).crossConflictTaken = false ∧
      demo.phase .A ≠ .crossing ∧ demo.granted .A = false :=
  ⟨by decide, by decide, by decide, by decide, by decide, by decide, by decide, fun c => by cases c <;> rfl, by decide⟩

/-- A trip fires at the third sample that finds its condition, and re-arms at the third that does not, and not before (R23, R101). -/
theorem test_trips_count_samples :
    let fires (since dt : Nat) : Prop := ∃ t, exec (.limitConflict dt .A) (tripped true .inactive since) = .next t ∧
      (t.drive.limitTrips.get .A).armed = false
    let rests (since dt : Nat) : Prop := ∃ t, exec (.limitConflict dt .A) (tripped true .inactive since) = .next t ∧
      (t.drive.limitTrips.get .A).armed = true
    rests 0 59 ∧ fires 0 60 ∧ rests 41 99 ∧ fires 41 100 ∧ rests 40 79 ∧ fires 40 80 ∧
      ∃ t, exec (.limitConflictRearm 60 .A) (tripped false .active 0) = .next t ∧ (t.drive.limitTrips.get .A).armed = true :=
  ⟨⟨_, rfl, by decide +kernel⟩, ⟨_, rfl, by decide +kernel⟩, ⟨_, rfl, by decide +kernel⟩, ⟨_, rfl, by decide +kernel⟩,
    ⟨_, rfl, by decide +kernel⟩, ⟨_, rfl, by decide +kernel⟩, _, rfl, by decide +kernel⟩

theorem witness_ScanBringsImageUpToDate :
    let s : State := { demo with levels := { demo.levels with nextScan := some 250 } }
    let u : State := { demo with levels := { demo.levels with exchanging := true } }
    s.isHeld = false ∧ s.levels.nextScan = some 250 ∧ 250 ≤ s.now + 250 ∧ s.levels.exchanging = false ∧ u.isHeld = false ∧
      u.start.image = some (readBlock Config.newBlock) ∧ u.levels.exchanging = true := by decide

theorem witness_SillTestOutcomes :
    (demo.levels.pairs.get (.pound .upper)).last = none ∧ (waiting .idle).depth? .A .upper = some 3340 ∧
      (waiting .idle).depth? .A .lower = some 10740 := by decide +kernel

theorem witness_LevelTimersExpire :
    let s (p : Phase) := (at' p .waiting).modSeq .A fun q => { q with levelTimer := some 900000 }
    let u (p : Phase) : State := { s p with levels := { demo.levels with firstScan := some 0 } }
    (s .levelling).isHeld = false ∧ ((s .levelling).seq .A).levelTimer = some 900000 ∧
      (∀ p ∈ [Phase.preLevelling, .levelling, .crossing],
        (u p).phase .A = p ∧ ((u p).seq .A).lockage = some record ∧ ((u p).seq .A).levelLostRaised = false ∧
          ((u p).seq .A).levelReached = false ∧
          ({ u p with now := (u p).now + 30000 } : State).lostAge? (.chamber .A) = some 30000) ∧
      demo.cfg.levelLostLimit * 1000 ≤ 30000 := by decide +kernel

theorem witness_GrantOpensExchange :
    crossing.grantDue? = some .A ∧ (crossing.dev .xv).position ≠ .opened ∧ (exchanging .opening).cross.stage = .opening ∧
      AnswerComes (line (exchanging .opening) .xv (.start .toOpen)) 300 .xv (.start .toOpen) 9 ∧
      (line (exchanging .opening) .xv (.start .toOpen)).cross.stage = .opening ∧
      ((line (exchanging .opening) .xv (.start .toOpen)).dev .xv).position ≠ .faulted :=
  ⟨by decide +kernel, by decide +kernel, rfl,
    ⟨line_oneTransaction _ _ _ (forall_device (by decide +kernel)), rfl, rfl, rfl, 0, rfl, Nat.le_refl 300⟩, rfl,
    by decide +kernel⟩

theorem witness_ExchangeEnds :
    crossing.isHeld = false ∧ crossing.cross.claims.get .A = some ⟨.drain, 0, 90000, true⟩ ∧ crossing.cross.stage = .none ∧
      (exchanging .opening).cross.stage = .opening ∧ (exchanging .opening).granted .A = true ∧
      (exchanging .opening).cross.claims.get .A = some ⟨.drain, 0, 90000, true⟩ ∧
      (exchanging .flowing).cross.exchangeTimer = some 600000 ∧ (exchanging .flowing).cross.stage = .flowing ∧
      (exchanging .closing).cross.grant = some ⟨.A, .B, ⟨1, 1⟩⟩ ∧ (crossing.seq .A).lockage = some record ∧
      record.serial = 1 := by decide +kernel

theorem witness_FaultsAreTaken :
    ((at' .levelling .waiting).seq .A).phase = .levelling ∧ (at' .levelling .waiting).configValid = true ∧
      ((at' .safing .waiting).seq .A).phase = .safing ∧ ((at' .lockedOut .waiting).seq .A).phase = .lockedOut ∧
      (State.reset.modSeq .A fun q => { q with phase := .outOfService }).phase .A = .outOfService ∧
      State.reset.configValid = false := by decide +kernel

/-- Every device of the lock stands confirmed CLOSED and at rest. -/
def shut (s : State) : State :=
  let r : DeviceRecord := { demo.dev .xv with position := .closed, reportedEnd := some .closed }
  { s with drive := { s.drive with devices := .all r, limits := .all .active } }

theorem shut_closed (s : State) (d : Device) : StandsClosed (shut s) d := by simp [StandsClosed, shut, State.dev]

theorem shut_rests (s : State) (d : Device) :
    ((shut s).dev d).outstanding = none ∧ ((shut s).dev d).queued = none ∧ ((shut s).dev d).onLine = none ∧
      ((shut s).dev d).awaitingDone = false := by simp [shut, State.dev]; decide

/-- SAFING that asks for a sluice, one that waits for a sluice that closes, and one that may end (R93, R94). -/
theorem witness_FaultsAreTaken_safing :
    let x : Device := .sluice .A .upper
    let s := shut (at' .safing .waiting)
    let u := dev s x fun r => { r with reportedEnd := none }
    let v := dev u x fun r => { r with position := .closing, outstanding := some (.move .toClose), awaitingDone := true }
    s.phase .A = .safing ∧ (∀ d ∈ Chamber.A.devices, safed s .A d = s.dev d) ∧ SafingOver s .A ∧ safed u .A x ≠ u.dev x ∧
      (∀ d ∈ Chamber.A.devices, safed v .A d = v.dev d) ∧ ¬SafingOver v .A :=
  ⟨rfl, by decide +kernel, ⟨fun e => ⟨.inl (shut_closed _ _), .inl (shut_rests _ _)⟩, by decide +kernel⟩, by decide +kernel,
    by decide +kernel, fun h => absurd (h.1 .upper).1 (by unfold StandsClosed; decide +kernel)⟩

/-! ### The sequencer's own progress -/

/-- The chamber is equalized with the pound at an end. -/
def levelled (s : State) (e : End) : State :=
  { s with levels := { s.levels with counters := s.levels.counters.set .A ((s.levels.counters.get .A).set e 3) } }

/-- Chamber A in a phase with a holder, everything shut, level with its entry pound or not, level reached or not. -/
def resting (p : Phase) (level reached : Bool) : State :=
  let s := (shut (at' p .waiting)).modSeq .A fun q => { q with levelReached := reached }
  if level then levelled s .lower else s

/-- A gate of chamber A stands OPEN. -/
def opened (s : State) (e : End) : State := dev s (.gate .A e) fun r => { r with position := .opened, reportedEnd := some .opened }

theorem forall_end {p : End → Prop} : (∀ e, p e) ↔ p .upper ∧ p .lower :=
  ⟨fun h => ⟨h _, h _⟩, fun h e => by cases e; exacts [h.1, h.2]⟩

theorem resting_closed (p : Phase) (level reached : Bool) (d : Device) : StandsClosed (resting p level reached) d := by
  cases level <;> exact shut_closed _ d

theorem resting_rests (p : Phase) (level reached : Bool) (d : Device) :
    ((resting p level reached).dev d).outstanding = none ∧ ((resting p level reached).dev d).queued = none ∧
      ((resting p level reached).dev d).onLine = none ∧ ((resting p level reached).dev d).awaitingDone = false := by
  cases level <;> exact shut_rests _ d

/-- Every way that R48 leads from FORMING. -/
theorem witness_PhasesFollow_forming :
    LeadsTo (opened (resting .forming true false) .lower) .A record .entry ∧
    LeadsTo (opened (resting .forming true false) .upper) .A record .turning ∧
    LeadsTo (resting .forming false false) .A record .preLevelling ∧ LeadsTo (resting .forming true false) .A record .entryOpening := by
  have closed (level : Bool) : ¬((∃ e, ¬StandsClosed (resting .forming level false) (.gate .A e) ∧
      ¬(e = record.direction.entryEnd ∧ entryGateExcused (resting .forming level false) .A record.direction)) ∨
      ¬∀ e, StandsClosed (resting .forming level false) (.sluice .A e)) := by
    rintro (⟨e, h, -⟩ | h)
    · exact h (resting_closed _ _ _ _)
    · exact h fun e => resting_closed _ _ _ _
  have first : (∀ e, StandsClosed (opened (resting .forming true false) .lower) (.sluice .A e)) :=
    forall_end.mpr (by unfold StandsClosed; decide +kernel)
  have gate : ¬StandsClosed (opened (resting .forming true false) .upper) (.gate .A .upper) := by
    unfold StandsClosed; decide +kernel
  refine ⟨⟨by decide +kernel, fun _ => rfl, fun h => absurd ⟨rfl, rfl, first⟩ h, fun h => absurd ⟨rfl, rfl, first⟩ h⟩,
    ⟨by decide +kernel, fun h => absurd h.1 (by decide), fun _ _ => rfl,
      fun _ h => absurd (.inl ⟨.upper, gate, fun h => absurd h.1 (by decide)⟩) h⟩,
    ⟨fun d _ => resting_rests _ _ _ d, fun h => absurd h.1 (by decide), fun _ h => absurd h (closed false),
      fun _ _ => ⟨fun _ => rfl, fun h => absurd h (by unfold levelWith; decide)⟩⟩,
    ⟨fun d _ => resting_rests _ _ _ d, fun h => absurd h.1 (by decide), fun _ h => absurd h (closed true),
      fun _ _ => ⟨fun h => absurd rfl h, fun _ => rfl⟩⟩⟩

/-- The ways that R49 to R57 lead from a later phase. -/
theorem witness_PhasesFollow :
    LeadsTo (resting .turning true false) .A record .entryOpening ∧ LeadsTo (resting .turning false false) .A record .preLevelling ∧
    LeadsTo (resting .preLevelling true true) .A record .entryOpening ∧
    LeadsTo (opened (resting .entryOpening true false) .lower) .A record .entry ∧
    LeadsTo (resting .entryClosing false false) .A record .crossing ∧ LeadsTo (resting .levelling false true) .A record .exitOpening ∧
    LeadsTo (opened (resting .exitOpening false false) .upper) .A record .exit :=
  ⟨⟨fun e => ⟨resting_closed _ _ _ _, .inl (resting_closed _ _ _ _)⟩, fun _ => rfl, fun h => absurd rfl h⟩,
    ⟨fun e => ⟨resting_closed _ _ _ _, .inl (resting_closed _ _ _ _)⟩, fun h => absurd h (by unfold levelWith; decide), fun _ => rfl⟩,
    ⟨⟨rfl, resting_closed _ _ _ _, fun k => by cases k <;> decide⟩, rfl⟩, ⟨rfl, rfl⟩, ⟨resting_closed _ _ _ _, by decide +kernel⟩,
    ⟨⟨rfl, resting_closed _ _ _ _, fun k => by cases k <;> decide⟩, rfl⟩, rfl, rfl⟩

/-- The chambers of PhasesFollow have a holder, and a record with a reservation or without. -/
theorem witness_PhasesFollow_handsOver :
    let s := opened (resting .exitOpening false false) .upper
    s.holder .A ≠ none ∧ (s.seq .A).lockage = some record ∧ record.reservation ≠ .none ∧ demo.holder .B = none ∧
      demo.phase .B = .idle ∧ (s.workTest? .A).isSome = true := by decide +kernel

/-- Chamber A in STEP, with a step wait or none. -/
def stepped (s : State) (w : Option (Device × Target)) : State := s.modSeq .A fun q => { q with stepMode := .step, stepWait := w }

theorem stepped_due (s : State) (w : Option (Device × Target)) (l : LockageRecord) (d : Device) (k : Target) :
    Due (stepped s w) .A l d k ↔ Due s .A l d k := Iff.rfl

/-- A gate to close in TURNING is due, in AUTO and in STEP; one that stands closed is not; in ENTRY nothing is due. -/
theorem witness_RequestsFallDue :
    let s := opened (resting .turning true false) .upper
    let g : Device := .gate .A .upper
    (s.phase .A).working = true ∧ s.holder .A ≠ none ∧ (s.seq .A).lockage = some record ∧ (∀ p, ¬LeadsTo s .A record p) ∧
      (∀ e b, ¬ReturnDue s .A record e b) ∧ (s.seq .A).stepMode = .auto ∧ Due s .A record g .toClose ∧
      ¬Due s .A record (.gate .A .lower) .toClose ∧ ((stepped s (some (g, .toOpen))).seq .A).stepMode = .step ∧
      ¬GovernedDark s .A record ∧ (s.workTest? .A).isSome = true ∧
      ∀ d k, ¬Due (resting .entry true false) .A record d k := by
  refine ⟨rfl, by decide, rfl, fun p h => ?_, fun e b h => ?_, rfl, ?_, fun h => ?_, rfl, fun h => ?_, by decide +kernel,
    fun d k h => ?_⟩
  · exact absurd (h.1 .upper).2 (by unfold StandsClosed; decide +kernel)
  · rcases h.1 with h | h <;> exact absurd h.1 (by decide)
  · exact ⟨⟨rfl, by decide⟩, fun h => absurd h (by decide), fun h => absurd h (by decide), rfl,
      .inl (by unfold hasReached StandsClosed; decide +kernel), by decide +kernel⟩
  · rcases h.2.2.2.2.1 with h | h
    · exact h ⟨by decide +kernel, by decide +kernel⟩
    · exact absurd h.1 (by decide)
  · rcases h with h | h <;> exact absurd h.1 (by decide)
  · cases d <;> exact h.1

/-- An opening phase with both reds of every head failed. -/
def darkened (s : State) : State :=
  { s with heads := PerHead.all ⟨.red, .dark, ⟨⟨true, true, 0, false, 0⟩, ⟨false, true, 0, false, 0⟩, .initial false⟩⟩ }

/-- The upper gate is the first of the chamber, so it is the first due; an opening phase out of level returns, and one in level with a
dark governing head does not open; LEVELLING becomes level with its exit pound. -/
theorem witness_RequestsFallDue_openings :
    let s := opened (resting .turning true false) .upper
    let low := resting .entryOpening false false
    let dark := darkened (resting .entryOpening true false)
    let onset := levelled (resting .levelling false false) .upper
    FirstDue s .A record (.gate .A .upper) .toClose ∧ ReturnDue low .A record .lower .preLevelling ∧ (∀ p, ¬LeadsTo low .A record p) ∧
      FirstDue dark .A record (.gate .A .lower) .toOpen ∧ GovernedDark dark .A record ∧ (∀ p, ¬LeadsTo dark .A record p) ∧
      (∀ e b, ¬ReturnDue dark .A record e b) ∧ (onset.seq .A).levelReached = false ∧ onset.phase .A = .levelling ∧
      levelWith onset .A record.direction.exitEnd := by
  refine ⟨⟨by decide, witness_RequestsFallDue.2.2.2.2.2.2.1, fun x _ j _ => Nat.zero_le _⟩,
    ⟨.inl ⟨rfl, rfl, rfl⟩, by unfold levelWith; decide, by decide, by decide, fun k => by cases k <;> decide, by decide⟩,
    fun p h => absurd h.1 (by decide), ⟨by decide, ⟨⟨rfl, rfl⟩, fun _ => rfl, fun h => absurd h (by decide), rfl,
      .inl (by unfold hasReached; decide), by decide⟩, ?_⟩,
    .inl ⟨rfl, rfl, rfl⟩, fun p h => absurd h.1 (by decide), fun e b h => ?_, rfl, rfl, rfl⟩
  · intro x hx j h
    fin_cases hx
    · exact absurd h.1.1 (by decide)
    · exact h.1.elim
    · decide
    · exact h.1.elim
  · rcases h.1 with ⟨-, rfl, -⟩ | ⟨h1, -⟩
    · exact h.2.1 rfl
    · exact absurd h1 (by decide)

theorem witness_LampSamples :
    let s : State := { demo with heads := .all ⟨.red, .red, ⟨⟨true, false, 2, false, 0⟩, .initial false, ⟨false, false, 0, false, 2⟩⟩⟩ }
    let u := (s.beginEvent 100).lampSample (.all ⟨false, false, true⟩)
    demo.isHeld = false ∧ s.nextLampSample ≤ s.now + 100 ∧ s.now + 99 < s.nextLampSample ∧ latchedNow s u ⟨.A, .upper, .outer⟩ .red1 = true ∧ strayChanged s u ⟨.A, .upper, .outer⟩ .green = true ∧
      latchedNow demo ((demo.beginEvent 100).lampSample clear) ⟨.A, .upper, .outer⟩ .red1 = false := by decide +kernel

theorem witness_HoldsAndStarts :
    let s : State := { demo with start := { demo.start with reconfigurePending := true } }
    let u := s.modPort .desk fun p => { p with sending := some .reply }
    demo.start.hold.line = false ∧ demo.start.hold.power = false ∧ u.isHeld = false ∧ u.start.reconfigurePending = true ∧
      (u.port .desk).sending = some .reply ∧ (demo.holdPart ⟨false, true, false, true, 0, 3⟩).start.hold.power = true ∧
      (demo.holdPart ⟨false, true, false, true, 0, 3⟩).isHeld = true ∧ demo.start.hold.lineTurned + 3 ≤ demo.now + 3 ∧
      demo.now + 2 < demo.start.hold.powerTurned + 3 ∧
      (demo.holdPart ⟨false, true, false, true, 0, 3⟩).start.hold.powerTurned + 3 ≤ demo.now + 6 := by decide +kernel

set_option maxRecDepth 20000 in
theorem witness_ConfigurationReadAndCensus :
    let s : State := { State.reset with start := { State.reset.start with stage := .census } }
    State.reset.isHeld = false ∧ State.reset.start.stage = .reading ∧ storedFault State.reset.start.store = none ∧
      storedFault (List.replicate 99 0xFF#8) = some .format ∧ s.start.stage = .census ∧ s.start.queriesPlaced = false ∧
      s.start.censusSince + 100 ≤ s.now + 100 ∧ s.startUpStep? = none := by decide +kernel

/-- The census is over: XV, STOPPED, is a stray (R205); the lower queue holds an EMERGENCY vessel. -/
theorem witness_ConfigurationReadAndCensus_end :
    let s : State :=
      { demo with
        start := { demo.start with stage := .census, queriesPlaced := true }
        traffic := { demo.traffic with vessels := [{ cargo with cls := .emergency }], queues := ⟨[], [1]⟩ } }
    s.start.stage = .census ∧ s.start.queriesPlaced = true ∧ (∀ d, (s.dev d).queryFlag = false) ∧
      (s.dev .xv).position ≠ .faulted ∧ ¬StandsClosed s .xv ∧
      ∃ u, s.startUpStep? = some u ∧ u.start.stage = .ended ∧ (u.dev .xv).startQueued = true ∧
        u.event.produced.getLast? = some .started :=
  ⟨rfl, rfl, forall_device (by decide +kernel), by decide, fun h => absurd h.1 (by decide), _, rfl, by decide +kernel⟩

end Sys2Proof.Tests
end

/-! ## The water levels: what each operation does with the level image

The scanner's records stand in one field of the state. Only seven commands write that field; every other operation of the model
leaves it, most of them because they keep the whole skeleton. -/

namespace Sys2Proof.Machine.WaterLevels

/-! ### Operations that leave the level image -/

/-- The skeleton shows the level image, so what keeps the skeleton keeps the image. -/
theorem levels_of_skeleton {s t : State} (h : s.skeleton = t.skeleton) : s.levels = t.levels := congrArg (·.levels) h

theorem foldl_levels {α : Type} (g : State → α → State) (h : ∀ s x, (g s x).levels = s.levels) (l : List α) (s : State) :
    (l.foldl g s).levels = s.levels := by
  induction l generalizing s with
  | nil => rfl
  | cons x l ih => rw [List.foldl_cons, ih, h]

@[simp] theorem updDev_levels (s : State) (d : Device) (g : DeviceRecord → DeviceRecord) : (s.updDev d g).levels = s.levels := by
  unfold State.updDev State.stampClosed
  dsimp only
  split_ifs <;> rfl

@[simp] theorem setLimit_levels (s : State) (d : Device) (v : Filtered) : (s.setLimit d v).levels = s.levels := by
  unfold State.setLimit State.stampClosed
  dsimp only
  split_ifs <;> rfl

@[simp] theorem startRequest_levels (s : State) (d : Device) (t : Target) : (s.startRequest d t).levels = s.levels :=
  levels_of_skeleton (startRequest_skeleton s d t)

@[simp] theorem stopRequest_levels (s : State) (d : Device) : (s.stopRequest d).levels = s.levels :=
  levels_of_skeleton (stopRequest_skeleton s d)

@[simp] theorem statusQuery_levels (s : State) (d : Device) : (s.statusQuery d).levels = s.levels := by
  rcases statusQuery_cases s d with ⟨h, -⟩ | ⟨h, -⟩ | ⟨h, -⟩ <;> rw [h] <;> rfl

@[simp] theorem faultDevice_levels (s : State) (d : Device) (k : FaultKind) : (s.faultDevice d k).levels = s.levels := by
  unfold State.faultDevice
  dsimp only
  split_ifs <;> simp

@[simp] theorem queryTail_levels (s : State) (d : Device) : (s.queryTail d).levels = s.levels := by
  unfold State.queryTail
  split_ifs <;> simp

@[simp] theorem watchHead_skeleton (s : State) : s.watchHead.skeleton = s.skeleton := by
  unfold State.watchHead
  split
  · rw [apply_ite State.skeleton, endExchange_skeleton, ite_self]
    rfl
  · rfl

@[simp] theorem startCrossTimer_skeleton (s : State) (c : Chamber) : (s.startCrossTimer c).skeleton = s.skeleton := by
  unfold State.startCrossTimer
  split_ifs <;> simp

@[simp] theorem valveOpens_skeleton (s : State) : s.valveOpens.skeleton = s.skeleton := by
  unfold State.valveOpens
  split
  · exact foldl_skeleton _ startCrossTimer_skeleton _ _
  · rfl
  · rfl

@[simp] theorem startLevelTimer_skeleton (s : State) (c : Chamber) (e : End) : (s.startLevelTimer c e).skeleton = s.skeleton := by
  unfold State.startLevelTimer
  split_ifs <;> simp

@[simp] theorem sillBreak_skeleton (s : State) (c : Chamber) (e : End) : (s.sillBreak c e).skeleton = s.skeleton := by
  unfold State.sillBreak
  dsimp only
  split_ifs <;> simp

@[simp] theorem afterAccept_skeleton (s : State) (d : Device) (t : Target) : (s.afterAccept d t).skeleton = s.skeleton := by
  unfold State.afterAccept
  split
  · split_ifs <;> simp
  · simp
  · simp
  · rfl

@[simp] theorem queriedCheck_skeleton (s : State) (d : Device) : (s.queriedCheck d).skeleton = s.skeleton := by
  unfold State.queriedCheck
  split
  · rfl
  · split
    · split_ifs <;> simp
    · rfl

@[simp] theorem queriedCheck_levels (s : State) (d : Device) : (s.queriedCheck d).levels = s.levels :=
  levels_of_skeleton (queriedCheck_skeleton s d)

/-- The reactions, the drive line, the heads and the notices leave the image (R10, R141, R197). -/
@[simp] theorem finish_levels (s : State) : s.finish.levels = s.levels := by
  rw [finish_eq, finishQuiet_levels, lightHeads_eq]
  simp

/-! ### Answers and events of the drive line -/

@[simp] theorem takeNextStart_levels (s : State) (d : Device) : (s.takeNextStart d).levels = s.levels := by
  unfold State.takeNextStart
  split
  · rfl
  · dsimp only
    split_ifs <;> simp

@[simp] theorem applyFinding_levels (s : State) (d : Device) (f : Finding) : (s.applyFinding d f).levels = s.levels := by
  unfold State.applyFinding
  dsimp only
  split_ifs
  · rfl
  · cases f <;> simp
  · cases f <;> simp

theorem answered_levels (s : State) (d : Device) (k : Task) (a : DriveAnswer) : (s.answered d k a).levels = s.levels := by
  unfold State.answered
  split
  · rw [levels_of_skeleton (afterAccept_skeleton _ d _)]
    exact updDev_levels s.freeLine d _
  · simp [State.startRejected, State.freeLine]
  · exact updDev_levels s.freeLine d _
  · simp [State.stopFailed, State.freeLine]
  · dsimp only
    split_ifs <;> simp [State.statusApplied, State.freeLine]
  · rfl

theorem unanswered_levels (s : State) (d : Device) (k : Task) : (s.unanswered d k).levels = s.levels := by
  have hstatus : (s.freeLine.statusUnanswered d).levels = s.levels := by
    unfold State.statusUnanswered
    dsimp only
    split_ifs <;> simp [State.freeLine]
  cases k with
  | start t => simp [State.unanswered, State.startUnanswered, State.freeLine]
  | stop => simp [State.unanswered, State.stopFailed, State.freeLine]
  | status =>
    unfold State.unanswered
    dsimp only
    split_ifs <;> simp [hstatus]

theorem travelExpired_levels (s : State) (d : Device) : (s.travelExpired d).levels = s.levels := by
  unfold State.travelExpired
  dsimp only
  split_ifs <;> simp

theorem limitChanged_levels (s : State) (d : Device) (v : Filtered) : (s.limitChanged d v).levels = s.levels := by
  unfold State.limitChanged State.uncommandedCheck
  dsimp only
  split_ifs <;> simp [State.followTrips]

theorem when_levels {s u : State} (due : Bool) (h : u.levels = s.levels) : (s.when due u).levels = s.levels := by
  cases due
  · rfl
  · exact h

/-- An event's end after an operation that leaves the image. -/
theorem when_finish_levels {s u : State} (due : Bool) (h : u.levels = s.levels) : (s.when due u.finish).levels = s.levels :=
  when_levels due ((finish_levels u).trans h)

theorem when_finishQuiet_levels {s u : State} (due : Bool) (h : u.levels = s.levels) :
    (s.when due u.finishQuiet).levels = s.levels :=
  when_levels due ((finishQuiet_levels u).trans h)

theorem driveAnswer_levels (s : State) (address : Nat) (want : Task → Bool) (a : DriveAnswer) :
    (s.driveAnswer address want a).levels = s.levels := by
  unfold State.driveAnswer
  split
  · exact when_finish_levels _ (answered_levels s _ _ a)
  · rfl

/-! ### Lamps and cross timers -/

theorem sampleEvent_levels (s : State) (m : PerHead (PerLamp Bool)) : (s.sampleEvent m).levels = s.levels := by
  have h : (s.lampSample m).levels = s.levels := foldl_levels State.produce (fun _ _ => rfl) _ _
  unfold State.sampleEvent
  split_ifs
  · rw [finish_levels, h]
  · rw [finishQuiet_levels, h]

theorem waitExpired_skeleton (s : State) (c : Chamber) : (s.waitExpired c).skeleton = s.skeleton := by
  unfold State.waitExpired
  dsimp only
  split_ifs <;> simp

/-! ### Requests -/

theorem check_levels {s : State} (ok : Bool) (r : Result) {a : Answer} (h : a.state.levels = s.levels) :
    (s.check ok r a).state.levels = s.levels := by
  cases ok
  · rfl
  · exact h

theorem asHolder_levels {s : State} (f : Frame) (c : Option Chamber) {body : Chamber → Answer}
    (h : ∀ c, (body c).state.levels = s.levels) : (s.asHolder f c body).state.levels = s.levels := by
  unfold State.asHolder
  split
  · rfl
  · split
    · rfl
    · split_ifs
      · exact h _
      · rfl

/-- A request that may be carried out by an operation which keeps the skeleton. -/
theorem check_levels_of_skeleton {s u : State} (ok : Bool) (r : Result) (d : ReplyData) (h : u.skeleton = s.skeleton) :
    (s.check ok r (u.accept d)).state.levels = s.levels :=
  check_levels ok r (levels_of_skeleton h)

/-! #### Authority -/

@[simp] theorem claimBody_levels (f : Frame) (c : Option Chamber) (s : State) : (claimBody f c s).state.levels = s.levels := by
  unfold claimBody
  split
  · rfl
  · rfl
  · exact check_levels_of_skeleton _ _ _ (claimBy_skeleton ..)

@[simp] theorem releaseBody_levels (f : Frame) (c : Option Chamber) (s : State) : (releaseBody f c s).state.levels = s.levels := by
  unfold releaseBody
  split
  · rfl
  · rfl
  · split
    · rfl
    · next h => exact check_levels_of_skeleton _ _ _ (releaseBy_skeleton h)

@[simp] theorem presentBody_levels (f : Frame) (s : State) : (presentBody f s).state.levels = s.levels :=
  check_levels _ _ (check_levels _ _ rfl)

@[simp] theorem seizeBody_levels (f : Frame) (c : Option Chamber) (s : State) : (seizeBody f c s).state.levels = s.levels := by
  refine check_levels _ _ ?_
  cases c with
  | none => rfl
  | some c => exact check_levels_of_skeleton _ _ _ (seizeBy_skeleton s c)

/-! #### Commands to a chamber -/

@[simp] theorem startLockageBody_levels (f : Frame) (c : Option Chamber) (d : Option Direction) (s : State) :
    (startLockageBody f c d s).state.levels = s.levels := by
  refine asHolder_levels f c fun c => check_levels _ _ (check_levels _ _ ?_)
  cases d with
  | none => rfl
  | some d => exact check_levels_of_skeleton _ _ _ (enterForming_skeleton s c d [])

@[simp] theorem addVesselBody_levels (f : Frame) (c : Option Chamber) (h : Nat) (m : Option Mark) (s : State) :
    (addVesselBody f c h m s).state.levels = s.levels := by
  refine asHolder_levels f c fun c => check_levels _ _ ?_
  split
  · rfl
  · refine check_levels _ _ (check_levels _ _ (check_levels _ _ ?_))
    split
    · next ht => exact levels_of_skeleton (tryTake_skeleton ht)
    · rfl

@[simp] theorem closeEntryBody_levels (f : Frame) (c : Option Chamber) (list : List (Nat × Option Mark)) (s : State) :
    (closeEntryBody f c list s).state.levels = s.levels := by
  refine asHolder_levels f c fun c => check_levels _ _ (check_levels _ _ ?_)
  split
  · rfl
  · exact levels_of_skeleton ((enterPhase_skeleton ..).trans (closeList_skeleton ..))

@[simp] theorem exitDoneBody_levels (f : Frame) (c : Option Chamber) (s : State) :
    (exitDoneBody f c s).state.levels = s.levels :=
  asHolder_levels f c fun c => check_levels _ _
    (check_levels_of_skeleton _ _ _ ((enterIdle_skeleton ..).trans (deletePlan_skeleton s c)))

@[simp] theorem holdBody_levels (f : Frame) (c : Option Chamber) (s : State) : (holdBody f c s).state.levels = s.levels :=
  asHolder_levels f c fun c => check_levels _ _ (check_levels_of_skeleton _ _ _ (holdOrder_skeleton s c .commanded))

theorem resume_skeleton (s : State) (c : Chamber) : (s.resume c).skeleton = s.skeleton := by
  unfold State.resume
  split <;> simp

@[simp] theorem resumeBody_levels (f : Frame) (c : Option Chamber) (s : State) : (resumeBody f c s).state.levels = s.levels :=
  asHolder_levels f c fun c => check_levels _ _ (check_levels _ _
    (check_levels_of_skeleton _ _ _ (resume_skeleton s c)))

@[simp] theorem abandonBody_levels (f : Frame) (c : Option Chamber) (s : State) : (abandonBody f c s).state.levels = s.levels :=
  asHolder_levels f c fun c => check_levels _ _ (check_levels _ _ (check_levels_of_skeleton _ _ _
    (show (s.abandon c).skeleton = s.skeleton by simp [State.abandon])))

theorem acknowledge_levels (s : State) (c : Chamber) : (s.acknowledge c).levels = s.levels := by
  refine (foldl_levels State.queryFaulted (fun s d => ?_) _ _).trans rfl
  unfold State.queryFaulted
  split_ifs <;> simp

@[simp] theorem acknowledgeFaultBody_levels (f : Frame) (c : Option Chamber) (s : State) :
    (acknowledgeFaultBody f c s).state.levels = s.levels := by
  cases c with
  | none => rfl
  | some c =>
    exact asHolder_levels f _ fun c => check_levels _ _ (check_levels _ _ (check_levels _ _ (acknowledge_levels s c)))

@[simp] theorem acknowledgeFaultCrossBody_levels (f : Frame) (s : State) :
    (acknowledgeFaultCrossBody f s).state.levels = s.levels :=
  check_levels _ _ (check_levels _ _ (check_levels _ _ (statusQuery_levels _ .xv)))

@[simp] theorem acknowledgeBody_levels (f : Frame) (x : Contents) (s : State) :
    (acknowledgeBody f x s).state.levels = s.levels := by
  unfold acknowledgeBody
  split_ifs <;> simp

theorem setMode_levels (s : State) (c : Chamber) (m : StepMode) : (s.setMode c m).levels = s.levels := by
  cases m with
  | auto => exact (levels_of_skeleton (releaseStep_skeleton _ c)).trans rfl
  | step => rfl

@[simp] theorem setModeBody_levels (f : Frame) (c : Option Chamber) (m : Option StepMode) (s : State) :
    (setModeBody f c m s).state.levels = s.levels := by
  refine asHolder_levels f c fun c => check_levels _ _ (check_levels _ _ ?_)
  cases m with
  | none => rfl
  | some m => exact setMode_levels s c m

@[simp] theorem advanceBody_levels (f : Frame) (c : Option Chamber) (s : State) : (advanceBody f c s).state.levels = s.levels :=
  asHolder_levels f c fun c => check_levels _ _ (check_levels _ _
    (check_levels_of_skeleton _ _ _ (releaseStep_skeleton s c)))

@[simp] theorem setServiceBody_levels (f : Frame) (c : Option Chamber) (v : Option Service) (s : State) :
    (setServiceBody f c v s).state.levels = s.levels := by
  refine asHolder_levels f c fun c => ?_
  unfold State.serviceAnswer
  split
  · exact check_levels _ _ (check_levels_of_skeleton _ _ _ (enterPhase_skeleton s c .outOfService))
  · exact check_levels _ _ (check_levels _ _ (check_levels_of_skeleton _ _ _ (enterPhase_skeleton s c .idle)))
  · exact check_levels _ _ rfl

@[simp] theorem setAdmissionBody_levels (f : Frame) (c : Option Chamber) (n : Nat) (s : State) :
    (setAdmissionBody f c n s).state.levels = s.levels :=
  asHolder_levels f c fun _ => check_levels _ _ (check_levels _ _ rfl)

/-! #### The desk -/

theorem clearLockout_levels (s : State) (c : Chamber) : (s.clearLockout c).levels = s.levels := by
  unfold State.clearLockout
  dsimp only
  refine (levels_of_skeleton (produce_skeleton _ _)).trans ((levels_of_skeleton (stopChamber_skeleton _ c)).trans ?_)
  refine (levels_of_skeleton (changePhase_skeleton _ c .hold)).trans ?_
  exact foldl_levels State.statusQuery statusQuery_levels _ _

@[simp] theorem clearLockoutBody_levels (f : Frame) (c : Option Chamber) (s : State) :
    (clearLockoutBody f c s).state.levels = s.levels := by
  refine check_levels _ _ ?_
  cases c with
  | none => rfl
  | some c => exact check_levels _ _ (check_levels _ _ (clearLockout_levels s c))

@[simp] theorem lampCheckBody_levels (f : Frame) (s : State) : (lampCheckBody f s).state.levels = s.levels :=
  check_levels _ _ (check_levels _ _ rfl)

@[simp] theorem loadConfigurationBody_levels (f : Frame) (block : List Byte) (x : StoreAnswer) (s : State) :
    (loadConfigurationBody f block x s).state.levels = s.levels := by
  refine check_levels _ _ (check_levels _ _ (check_levels _ _ ?_))
  unfold State.writeConfiguration
  dsimp only
  split_ifs <;> rfl

/-! #### Vessels -/

theorem withEmergency_levels (s : State) (v : Vessel) (d : ReplyData) : (s.withEmergency v d).state.levels = s.levels := by
  unfold State.withEmergency
  split_ifs
  · exact levels_of_skeleton (handleEmergency_skeleton s v.handle)
  · rfl

@[simp] theorem registerVesselBody_levels (f : Frame) (r : Registration) (s : State) :
    (registerVesselBody f r s).state.levels = s.levels := by
  refine check_levels _ _ ?_
  split
  · refine check_levels _ _ (check_levels _ _ (check_levels _ _ (check_levels _ _ (check_levels _ _ ?_))))
    split
    · rfl
    · exact withEmergency_levels _ _ _
  · rfl

@[simp] theorem amendVesselBody_levels (f : Frame) (h : Nat) (m : Option Mark) (a : Amendment) (s : State) :
    (amendVesselBody f h m a s).state.levels = s.levels := by
  refine check_levels _ _ ?_
  split
  · rfl
  · refine check_levels _ _ ?_
    unfold State.amendChecked
    split
    · rfl
    · exact check_levels _ _ (check_levels _ _ (check_levels _ _ (check_levels _ _ (withEmergency_levels _ _ _))))

theorem withdraw_skeleton (s : State) (v : Vessel) : (s.withdraw v).skeleton = s.skeleton := by
  unfold State.withdraw
  split <;> simp

@[simp] theorem withdrawVesselBody_levels (f : Frame) (h : Nat) (m : Option Mark) (s : State) :
    (withdrawVesselBody f h m s).state.levels = s.levels := by
  refine check_levels _ _ ?_
  split
  · rfl
  · exact check_levels _ _ (check_levels _ _ (levels_of_skeleton (withdraw_skeleton s _)))

@[simp] theorem readVesselBody_levels (f : Frame) (h : Nat) (m : Option Mark) (s : State) :
    (readVesselBody f h m s).state.levels = s.levels := by
  unfold readVesselBody
  split
  · rfl
  · exact check_levels _ _ rfl

@[simp] theorem readQueueBody_levels (f : Frame) (e : Option End) (n : Nat) (s : State) :
    (readQueueBody f e n s).state.levels = s.levels := by
  cases e with
  | none => rfl
  | some e => exact check_levels _ _ rfl

/-! #### Clock, tariffs and accounts -/

@[simp] theorem setTimeBody_levels (f : Frame) (day second weekday : Nat) (s : State) :
    (setTimeBody f day second weekday s).state.levels = s.levels :=
  check_levels _ _ (check_levels _ _ rfl)

@[simp] theorem loadTariffBody_levels (f : Frame) (t : Tariff) (i : Option Instant) (s : State) :
    (loadTariffBody f t i s).state.levels = s.levels :=
  check_levels _ _ (check_levels _ _ (check_levels _ _ (by cases i <;> rfl)))

@[simp] theorem readTariffBody_levels (f : Frame) (slot : Option Slot) (s : State) :
    (readTariffBody f slot s).state.levels = s.levels := by
  cases slot with
  | none => rfl
  | some x =>
    refine check_levels _ _ ?_
    split <;> rfl

@[simp] theorem blockAccountBody_levels (f : Frame) (n : Nat) (s : State) : (blockAccountBody f n s).state.levels = s.levels :=
  check_levels _ _ (check_levels _ _ rfl)

@[simp] theorem unblockAccountBody_levels (f : Frame) (n : Nat) (s : State) :
    (unblockAccountBody f n s).state.levels = s.levels :=
  check_levels _ _ (check_levels _ _ rfl)

@[simp] theorem peekRecordBody_levels (f : Frame) (s : State) : (peekRecordBody f s).state.levels = s.levels := by
  refine check_levels _ _ (check_levels _ _ ?_)
  split <;> rfl

@[simp] theorem takeRecordBody_levels (f : Frame) (expected : Option Nat) (s : State) :
    (takeRecordBody f expected s).state.levels = s.levels := by
  refine check_levels _ _ (check_levels _ _ ?_)
  split
  · rfl
  · exact check_levels _ _ rfl

@[simp] theorem closePeriodBody_levels (f : Frame) (s : State) : (closePeriodBody f s).state.levels = s.levels :=
  check_levels _ _ (check_levels _ _ rfl)

@[simp] theorem readPeriodImageBody_levels (f : Frame) (n : Nat) (s : State) :
    (readPeriodImageBody f n s).state.levels = s.levels := by
  refine check_levels _ _ (check_levels _ _ ?_)
  split <;> rfl

@[simp] theorem readAccountBody_levels (f : Frame) (n : Nat) (s : State) : (readAccountBody f n s).state.levels = s.levels :=
  check_levels _ _ rfl

@[simp] theorem readStatusBody_levels (f : Frame) (which : Nat) (s : State) :
    (readStatusBody f which s).state.levels = s.levels := by
  unfold readStatusBody
  split
  · rfl
  · exact check_levels _ _ rfl

@[simp] theorem refuse_levels (s : State) (r : Result) : (s.refuse r).state.levels = s.levels := rfl

/-- No request of a link writes the level image, whatever its kind code. -/
theorem requestBody_levels (code : Byte) (f : Frame) (contents : List Byte) (x : Contents) (s : State) :
    (requestBody code f contents x s).state.levels = s.levels := by
  unfold requestBody
  split <;> simp

/-! ### Frames at a link port -/

theorem place_levels (a : Answer) (f : Frame) (code : Byte) : (a.place f code).levels = a.state.levels := by
  rw [place_eq]
  split_ifs
  · exact finish_levels _
  · exact finishQuiet_levels _

theorem meetSlots_levels {s : State} (f : Frame) (code : Byte) {body : State → Answer}
    (h : (body s).state.levels = s.levels) : (s.meetSlots f code body).levels = s.levels := by
  unfold State.meetSlots
  split
  · rw [place_levels, h]
  · exact finishQuiet_levels _
  · exact finishQuiet_levels _

/-- The receiver that searches on among discarded bytes only takes requests (R183). -/
theorem discardFrame_levels (s : State) (l : Link) (gap : Bool) (bytes : List ArrivedByte) :
    (s.discardFrame l gap bytes).levels = s.levels := by
  unfold State.discardFrame
  dsimp only
  split_ifs
  · rfl
  · refine (foldl_levels (State.takeHeard l bytes) (fun s h => ?_) _ _).trans (finishQuiet_levels s)
    exact meetSlots_levels _ _ (requestBody_levels ..)

/-! ### Whole commands -/

theorem levels_after_request {s t : State} {dt : Nat} {f : Frame} {code : Byte} {body : State → Answer}
    (h : s.request dt f code body = .next t) (hb : ∀ u, (body u).state.levels = u.levels) : t.levels = s.levels := by
  injection h with h
  subst h
  split_ifs
  · rfl
  · exact meetSlots_levels f code (hb _)

theorem levels_after_event {s t : State} {dt : Nat} {body : State → State} (h : s.event? dt body = .next t)
    (hb : ∀ u, (body u).levels = u.levels) : t.levels = s.levels := by
  injection h with h
  subst h
  split_ifs
  · rfl
  · exact hb _

/-- The commands that write the level image: those of the scanner, the end of the configuration read, which starts it, and those
that hold and release the part. -/
def writesLevels : Instr → Bool
  | .scanStart .. | .scanCompletion .. | .configReadEnd .. | .frameSent .. | .resetLineHeld .. | .mainPowerHeld ..
  | .partReleased .. => true
  | _ => false

/-- A placement of the census (R204). -/
theorem placeQueries_levels (s : State) : s.placeQueries.levels = s.levels :=
  foldl_levels State.statusQuery statusQuery_levels _ _

theorem tick_levels (s : State) : s.tick.levels = s.levels := by
  unfold State.tick
  split_ifs
  · rfl
  · rw [finishQuiet_levels]
    unfold State.switchTest
    split
    · split_ifs <;> rfl
    · rfl
  · rfl

/-- Every other command leaves the level image as it is. -/
theorem exec_levels {c : Instr} {s t : State} (hc : writesLevels c = false) (h : exec c s = .next t) : t.levels = s.levels := by
  unfold exec at h
  cases c with
  | claim dt f c => exact levels_after_request h (claimBody_levels f c)
  | release dt f c => exact levels_after_request h (releaseBody_levels f c)
  | present dt f => exact levels_after_request h (presentBody_levels f)
  | seize dt f c => exact levels_after_request h (seizeBody_levels f c)
  | startLockage dt f c d => exact levels_after_request h (startLockageBody_levels f c d)
  | addVessel dt f c n m => exact levels_after_request h (addVesselBody_levels f c n m)
  | closeEntry dt f c list => exact levels_after_request h (closeEntryBody_levels f c list)
  | exitDone dt f c => exact levels_after_request h (exitDoneBody_levels f c)
  | hold dt f c => exact levels_after_request h (holdBody_levels f c)
  | resume dt f c => exact levels_after_request h (resumeBody_levels f c)
  | abandon dt f c => exact levels_after_request h (abandonBody_levels f c)
  | acknowledgeFault dt f c => exact levels_after_request h (acknowledgeFaultBody_levels f c)
  | acknowledgeFaultCross dt f => exact levels_after_request h (acknowledgeFaultCrossBody_levels f)
  | setMode dt f c m => exact levels_after_request h (setModeBody_levels f c m)
  | advance dt f c => exact levels_after_request h (advanceBody_levels f c)
  | setService dt f c v => exact levels_after_request h (setServiceBody_levels f c v)
  | setAdmission dt f c n => exact levels_after_request h (setAdmissionBody_levels f c n)
  | clearLockout dt f c => exact levels_after_request h (clearLockoutBody_levels f c)
  | lampCheck dt f => exact levels_after_request h (lampCheckBody_levels f)
  | loadConfiguration dt f b x => exact levels_after_request h (loadConfigurationBody_levels f b x)
  | registerVessel dt f r => exact levels_after_request h (registerVesselBody_levels f r)
  | amendVessel dt f n m a => exact levels_after_request h (amendVesselBody_levels f n m a)
  | withdrawVessel dt f n m => exact levels_after_request h (withdrawVesselBody_levels f n m)
  | setTime dt f d x w => exact levels_after_request h (setTimeBody_levels f d x w)
  | loadTariff dt f x i => exact levels_after_request h (loadTariffBody_levels f x i)
  | blockAccount dt f n => exact levels_after_request h (blockAccountBody_levels f n)
  | unblockAccount dt f n => exact levels_after_request h (unblockAccountBody_levels f n)
  | peekRecord dt f => exact levels_after_request h (peekRecordBody_levels f)
  | takeRecord dt f n => exact levels_after_request h (takeRecordBody_levels f n)
  | closePeriod dt f => exact levels_after_request h (closePeriodBody_levels f)
  | readPeriodImage dt f n => exact levels_after_request h (readPeriodImageBody_levels f n)
  | readStatus dt f n => exact levels_after_request h (readStatusBody_levels f n)
  | readVessel dt f n m => exact levels_after_request h (readVesselBody_levels f n m)
  | readQueue dt f e n => exact levels_after_request h (readQueueBody_levels f e n)
  | readTariff dt f x => exact levels_after_request h (readTariffBody_levels f x)
  | readAccount dt f n => exact levels_after_request h (readAccountBody_levels f n)
  | unknownCommand dt l code tag =>
    change (if isRequestCode code then s.event? dt State.rest
      else s.request dt ⟨l, tag, true⟩ code fun s => s.refuse .unknownCommand) = .next t at h
    split_ifs at h
    · exact levels_after_event h (fun _ => rfl)
    · exact levels_after_request h (fun _ => rfl)
  | frameInvalid dt l bytes => exact levels_after_event h (fun u => discardFrame_levels u l false bytes)
  | frameGapTimeout dt l bytes => exact levels_after_event h (fun u => discardFrame_levels u l true bytes)
  | busyLink dt l code tag => exact levels_after_event h (fun u => when_finishQuiet_levels _ rfl)
  | frameDiscardedSlotsFull dt l code tag => exact levels_after_event h (fun u => when_finishQuiet_levels _ rfl)
  | holderSilence dt c =>
    exact levels_after_event h (fun u => when_finish_levels _ (levels_of_skeleton (holderSilent_skeleton u c)))
  | claimantSilence dt c =>
    exact levels_after_event h (fun u => when_finish_levels _ (levels_of_skeleton (dropPending_skeleton u c _)))
  | startAnswer dt n accept => exact levels_after_event h (fun u => driveAnswer_levels u n _ _)
  | stopAnswer dt n accept => exact levels_after_event h (fun u => driveAnswer_levels u n _ _)
  | statusReply dt n e o g => exact levels_after_event h (fun u => driveAnswer_levels u n _ _)
  | driveAnswerTimeout dt =>
    refine levels_after_event h fun u => ?_
    split
    · rw [finish_levels, unanswered_levels]
    · rfl
  | driveFrameDiscarded dt bytes =>
    refine levels_after_event h fun u => ?_
    split
    · exact driveAnswer_levels u _ _ _
    · rfl
  | doneEvent dt d =>
    refine levels_after_event h fun u => when_levels _ ?_
    split_ifs
    · rw [finish_levels]
      exact updDev_levels _ d _
    · exact finishQuiet_levels _
  | travelDeadlineExpiry dt d => exact levels_after_event h (fun u => when_finish_levels _ (travelExpired_levels u d))
  | deadTimeExpiry dt c e => exact levels_after_event h (fun u => when_finishQuiet_levels _ (dispatch_levels u))
  | limitInputChange dt d a => exact levels_after_event h (fun u => when_finish_levels _ (limitChanged_levels u d _))
  | sillBeamBreak dt c e =>
    refine levels_after_event h fun u => when_levels _ ?_
    split_ifs
    · rw [finish_levels, levels_of_skeleton (sillBreak_skeleton _ c e)]
      rfl
    · exact finish_levels _
  | sillBeamClear dt c e => exact levels_after_event h (fun u => when_finish_levels _ rfl)
  | limitConflict dt c => exact levels_after_event h (fun u => when_finish_levels _ rfl)
  | limitConflictRearm dt c => exact levels_after_event h (fun u => when_finishQuiet_levels _ rfl)
  | crossConflict dt => exact levels_after_event h (fun u => when_finish_levels _ (faultDevice_levels _ .xv _))
  | crossConflictRearm dt => exact levels_after_event h (fun u => when_finishQuiet_levels _ rfl)
  | levelTimeout dt c => exact levels_after_event h (fun u => when_finish_levels _ rfl)
  | levelLost dt c =>
    exact levels_after_event h (fun u => when_finish_levels _ (levels_of_skeleton (levelLostCheck_skeleton u c)))
  | crossWaitExpiry dt c =>
    exact levels_after_event h (fun u => when_finish_levels _ (levels_of_skeleton (waitExpired_skeleton u c)))
  | crossExchangeExpiry dt =>
    exact levels_after_event h (fun u => when_finish_levels _ (levels_of_skeleton (endExchange_skeleton u)))
  | lampLatch dt x l m => exact levels_after_event h (fun u => when_levels _ (sampleEvent_levels u m))
  | lampStray dt x l m => exact levels_after_event h (fun u => when_levels _ (sampleEvent_levels u m))
  | lampCurrentSample dt m => exact levels_after_event h (fun u => when_levels _ (sampleEvent_levels u m))
  | clockTick dt =>
    injection h with h
    exact h ▸ tick_levels _
  | batteryLow dt =>
    injection h with h
    exact h ▸ when_levels _ rfl
  | censusQueries dt => exact levels_after_event h (fun u => when_finish_levels _ (placeQueries_levels u))
  | doneInputChange dt d a => exact levels_after_event h (fun u => when_finishQuiet_levels _ rfl)
  | scanStart | scanCompletion | configReadEnd | frameSent | resetLineHeld | mainPowerHeld | partReleased =>
    cases hc

end Sys2Proof.Machine.WaterLevels

/-! ## The level image stays sound (R30, R31, R32, R34) -/

namespace Sys2Proof.Machine.WaterLevels

/-- `LevelsSound`, said of the scanner alone. -/
def ScannerSound (u : LevelScanner) : Prop :=
  (∀ p i, ((u.channels.get p).get i).reading.inRange) ∧ (∀ p, (u.pairs.get p).inRange) ∧
    ∀ c e, (u.counters.get c).get e ≤ 3

theorem levelsSound_iff (s : State) : LevelsSound s ↔ ScannerSound s.levels := Iff.rfl

/-! ### Reads of the containers by place, sensor and end -/

@[simp] theorem PerPlace.get_of {α : Type} (g : Place → α) (p : Place) : (PerPlace.of g).get p = g p := by
  rcases p with c | e
  · cases c <;> rfl
  · cases e <;> rfl

@[simp] theorem PerPlace.get_map {α β : Type} (g : α → β) (x : PerPlace α) (p : Place) : (x.map g).get p = g (x.get p) := by
  rcases p with c | e
  · cases c <;> rfl
  · cases e <;> rfl

@[simp] theorem PerPlace.get_all {α : Type} (v : α) (p : Place) : (PerPlace.all v).get p = v := by
  rcases p with c | e
  · cases c <;> rfl
  · cases e <;> rfl

@[simp] theorem PerSensor.get_map {α β : Type} (g : α → β) (x : PerSensor α) (i : Sensor) : (x.map g).get i = g (x.get i) := by
  cases i <;> rfl

@[simp] theorem PerSensor.get_both {α : Type} (v : α) (i : Sensor) : (PerSensor.both v).get i = v := by cases i <;> rfl

@[simp] theorem PerEnd.get_of {α : Type} (g : End → α) (e : End) : (PerEnd.of g).get e = g e := by cases e <;> rfl

@[simp] theorem PerEnd.get_both {α : Type} (v : α) (e : End) : (PerEnd.both v).get e = v := by cases e <;> rfl

/-! ### One channel, one pair, one counter -/

theorem levelOf_inRange (k : ChannelConfig) (i : Nat) : levelInRange (levelOf k i) := by
  unfold levelOf levelInRange
  omega

theorem judge_inRange (k : ChannelConfig) (i : Nat) : (judge k i).inRange := by
  unfold judge
  split_ifs
  · trivial
  · exact levelOf_inRange k i
  · trivial

/-- The mean of two levels lies between them, so it has their range. -/
theorem meanOf_inRange {a b : Int} (ha : levelInRange a) (hb : levelInRange b) : levelInRange (meanOf a b) := by
  unfold levelInRange at *
  unfold meanOf
  omega

theorem pairOf_inRange {x y : Reading} (tolerance : Nat) (hx : x.inRange) (hy : y.inRange) {v : Int}
    (h : (pairOf tolerance x y).value? = some v) : levelInRange v := by
  cases x with
  | valid a =>
    cases y with
    | valid b =>
      unfold pairOf at h
      dsimp only at h
      split_ifs at h
      · exact Option.some.inj h ▸ meanOf_inRange hx hy
      · cases h
    | lost r => exact Option.some.inj h ▸ hx
  | lost r =>
    cases y with
    | valid b => exact Option.some.inj h ▸ hy
    | lost q => cases h

theorem update_inRange {r : PairRecord} {p : PairState} (now : Nat) (hr : r.inRange)
    (hp : ∀ v, p.value? = some v → levelInRange v) : (r.update p now).inRange := by
  refine ⟨hp, fun l hl => ?_⟩
  unfold PairRecord.update at hl
  dsimp only at hl
  split at hl
  · next v hv => exact Option.some.inj hl ▸ hp v hv
  · exact hr.2 l hl

theorem nextCounter_le (m : Bool) (n : Nat) : nextCounter m n ≤ 3 := by
  unfold nextCounter
  split_ifs
  · exact Nat.min_le_left 3 (n + 1)
  · exact Nat.zero_le 3

/-! ### A scan, a start, a hold -/

/-- Whatever the answer says, each channel comes out of a scan with a level of R30 or LOST. -/
theorem scanChannels_inRange (u : LevelScanner) (b : ConfigBlock) (a : ConverterAnswer) (p : Place) (i : Sensor) :
    (((u.scanChannels b a).get p).get i).reading.inRange := by
  unfold LevelScanner.scanChannels
  split_ifs
  · rw [PerPlace.get_of]
    cases i
    · exact judge_inRange _ _
    · exact judge_inRange _ _
  · rw [PerPlace.get_map, PerSensor.get_map]
    trivial

theorem scan_sound {u : LevelScanner} (h : ScannerSound u) (b : ConfigBlock) (now : Nat) (a : ConverterAnswer) :
    ScannerSound (u.scan b now a) := by
  obtain ⟨-, hpairs, -⟩ := h
  refine ⟨scanChannels_inRange u b a, fun p => ?_, fun c e => ?_⟩
  · simp only [LevelScanner.scan, PerPlace.get_of]
    exact update_inRange now (hpairs p) fun v =>
      pairOf_inRange _ (scanChannels_inRange u b a p .one) (scanChannels_inRange u b a p .two)
  · simp only [LevelScanner.scan, PerChamber.get_of, PerEnd.get_of]
    exact nextCounter_le _ _

theorem initial_sound : ScannerSound .initial := by
  refine ⟨fun p i => ?_, fun p => ?_, fun c e => ?_⟩
  · simp [LevelScanner.initial, Reading.inRange]
  · simp [LevelScanner.initial, PairRecord.inRange, PairState.value?]
  · simp [LevelScanner.initial]

/-- The scan completion leaves the scanner as the scan makes it; its notices go into the event (R27, R33). -/
@[simp] theorem applyScan_levels (s : State) (a : ConverterAnswer) : (s.applyScan a).levels = s.levels.scan s.cfg s.now a :=
  foldl_levels (fun s x => s.produce (.levelQuality x)) (fun _ _ => rfl) _ _

theorem levels_of_readInvalid (s : State) (cause : ConfigCause) : (s.readInvalid cause).levels = s.levels := by
  unfold State.readInvalid
  refine (levels_of_skeleton (enterPhase_skeleton _ .B .outOfService)).trans ?_
  exact (levels_of_skeleton (enterPhase_skeleton _ .A .outOfService)).trans rfl

theorem readEnds_sound {s : State} (h : LevelsSound s) (answers : Bool) : LevelsSound (s.readEnds answers) := by
  unfold State.readEnds
  dsimp only
  split
  · exact h
  · rw [levelsSound_iff, levels_of_readInvalid]
    exact h

theorem frameOut_sound {s : State} (h : LevelsSound s) (l : Link) : LevelsSound (s.frameOut l) := by
  unfold State.frameOut
  split_ifs
  · exact initial_sound
  · rw [levelsSound_iff, finishQuiet_levels]
    exact h

/-! ### Every step -/

theorem when_sound {s u : State} (due : Bool) (hs : LevelsSound s) (hu : LevelsSound u) : LevelsSound (s.when due u) := by
  cases due
  · exact hs
  · exact hu

theorem sound_after_event {s t : State} {dt : Nat} {body : State → State} (h : s.event? dt body = .next t)
    (hs : LevelsSound s) (hb : ∀ u, LevelsSound u → LevelsSound (body u)) : LevelsSound t := by
  injection h with h
  subst h
  split_ifs
  · exact hs
  · exact hb _ hs

/-- A command that writes the image scans, starts the scanner, or sets the values of R39. -/
theorem exec_sound_of_writesLevels {c : Instr} {s t : State} (hc : writesLevels c = true) (hs : LevelsSound s)
    (h : exec c s = .next t) : LevelsSound t := by
  unfold exec at h
  cases c with
  | scanStart dt =>
    refine sound_after_event h hs fun u hu => when_sound _ hu ?_
    rw [levelsSound_iff, finishQuiet_levels]
    exact hu
  | scanCompletion dt a =>
    refine sound_after_event h hs fun u hu => when_sound _ hu ?_
    rw [levelsSound_iff, finish_levels, levels_of_skeleton (watchHead_skeleton _), applyScan_levels]
    exact scan_sound hu _ _ _
  | configReadEnd dt answers =>
    refine sound_after_event h hs fun u hu => when_sound _ hu ?_
    rw [levelsSound_iff, finish_levels]
    exact readEnds_sound hu answers
  | frameSent dt l => exact sound_after_event h hs fun u hu => when_sound _ hu (frameOut_sound hu l)
  | resetLineHeld dt | mainPowerHeld dt | partReleased dt =>
    injection h with h
    exact h ▸ when_sound _ hs initial_sound
  | _ => cases hc

theorem exec_sound {c : Instr} {s t : State} (hs : LevelsSound s) (h : exec c s = .next t) : LevelsSound t := by
  cases hc : writesLevels c with
  | true => exact exec_sound_of_writesLevels hc hs h
  | false =>
    rw [levelsSound_iff, exec_levels hc h]
    exact hs

/-- Settles O7: a step runs the command at the front of the queue, which keeps the image or writes a sound one. -/
theorem levelsSoundKept : Obligations.LevelsSoundKept := by
  intro s t hs h
  unfold step at h
  split at h
  · injection h with h
    exact h ▸ hs
  · next c rest _ => exact exec_sound (s := { s with pending := rest }) hs h

end Sys2Proof.Machine.WaterLevels

/-! ## The scan and the sill test (R27 to R34, R36, R37) -/

namespace Sys2Proof.Machine.WaterLevels

/-! ### Roundings and figures -/

/-- Adding half of the divisor and taking the floor rounds an exact half up (R30). -/
theorem roundsTo_floor (p : Int) : roundsTo p 16000 ((2 * p + 16000) / 32000) := by
  unfold roundsTo
  omega

theorem roundsTo_meanOf (a b : Int) : roundsTo (a + b) 2 (meanOf a b) := by
  unfold roundsTo meanOf
  omega

theorem readsAs_readChannelAt (k : ChannelConfig) (i : Nat) : readsAs k i (readChannelAt k i) := by
  refine ⟨rfl, fun hlow => if_pos hlow, fun hhigh => ?_, fun hlow hhigh => ?_⟩
  · exact (if_neg (by omega)).trans (if_neg (by omega))
  · exact ⟨_, roundsTo_floor _, (if_neg (by omega)).trans (if_pos hhigh)⟩

theorem pairsAs_pairOf (tolerance : Nat) (x y : Reading) : pairsAs tolerance x y (pairOf tolerance x y) := by
  cases x with
  | valid a =>
    cases y with
    | valid b =>
      by_cases h : (a - b).natAbs ≤ tolerance
      · simp only [pairsAs, pairOf, h, if_true]
        exact ⟨_, roundsTo_meanOf a b, rfl⟩
      · simp only [pairsAs, pairOf, h, if_false]
    | lost r => rfl
  | lost r => cases y <;> rfl

theorem nextCounter_of_values {x y : PairState} {a b : Int} (window n : Nat) (hx : x.value? = some a) (hy : y.value? = some b) :
    nextCounter (matched window x y) n = if (a - b).natAbs ≤ window then min 3 (n + 1) else 0 := by
  simp [nextCounter, matched, hx, hy]

/-- A pair without a value matches nothing (R34). -/
theorem nextCounter_of_unusable {x y : PairState} (window n : Nat)
    (h : ∀ a b, x.value? = some a → y.value? = some b → False) : nextCounter (matched window x y) n = 0 := by
  have hm : matched window x y = false := by
    unfold matched
    split
    · next a b hx hy => exact (h a b hx hy).elim
    · rfl
  rw [hm]
  rfl

/-- What the answer's check is formed over, byte by byte (R27; log 23). -/
theorem answerCounts_iff (a : ConverterAnswer) :
    answerCounts a = true ↔ a.ready = Config.converterReady ∧ a.check = check16 (answerBytes a) := by
  simp [answerCounts]

/-! ### The scan completion on the whole state -/

theorem foldl_produce {α : Type} (g : α → Produced) (l : List α) (s : State) :
    l.foldl (fun s x => s.produce (g x)) s =
      { s with event := { s.event with produced := s.event.produced ++ l.map g } } := by
  induction l generalizing s with
  | nil => simp
  | cons x l ih =>
    rw [List.foldl_cons, ih]
    simp [State.produce, State.modEvent]

/-- A scan completion writes the scanner's records and produces the notices of the changed qualities, and that is all. -/
theorem applyScan_eq (s : State) (a : ConverterAnswer) :
    s.applyScan a =
      { s with
        levels := s.levels.scan s.cfg s.now a
        event :=
          { s.event with
            produced := s.event.produced ++ (qualitySubjects s.levels (s.levels.scan s.cfg s.now a)).map .levelQuality } } :=
  foldl_produce Produced.levelQuality _ _

theorem applyScan_frame (s : State) (a : ConverterAnswer) :
    (s.applyScan a).frame = { s.frame with levels := (s.applyScan a).levels } := by
  rw [applyScan_eq]
  rfl

/-- An event of the field whose condition holds takes its effect. -/
theorem event_due {s : State} {dt : Nat} (due : State → Bool) (body : State → State) (hh : s.isHeld = false)
    (hd : due (s.beginEvent dt) = true) :
    (s.event? dt fun u => u.when (due u) (body u)) = .next (body (s.beginEvent dt)) := by
  rw [event_taken hh, hd]
  rfl

/-- The scan as a whole event: the arbiter's examination of the head changes nothing of the frame (R79). -/
theorem scanCompletion_takesPlace {s : State} (dt : Nat) (a : ConverterAnswer) (hh : s.isHeld = false)
    (he : s.levels.exchanging = true) :
    TakesPlace s dt (fun u => (u.applyScan a).watchHead)
      { s.frame with now := s.now + dt, levels := ((s.beginEvent dt).applyScan a).levels } (exec (.scanCompletion dt a) s) := by
  have hskel : ((s.beginEvent dt).applyScan a).watchHead.skeleton = ((s.beginEvent dt).applyScan a).skeleton :=
    watchHead_skeleton _
  have hexec : exec (.scanCompletion dt a) s = .next ((s.beginEvent dt).applyScan a).watchHead.finish :=
    event_due (fun u => u.levels.exchanging) (fun u => (u.applyScan a).watchHead.finish) hh he
  have hlinks : ((s.beginEvent dt).applyScan a).watchHead.links = s.links :=
    (congrArg (·.links) hskel).trans (by rw [applyScan_eq]; rfl)
  have h := takesPlace_of (op := fun u => (u.applyScan a).watchHead) hexec hlinks
  rwa [frame_of_skeleton hskel, applyScan_frame, beginEvent_frame] at h

theorem beginScan_eq {s : State} {n : Nat} (h : s.levels.nextScan = some n) :
    s.beginScan = { s with levels := { s.levels with exchanging := true, nextScan := some (n + 250) } } := by
  simp [State.beginScan, h, levelScanPeriod]

/-- A scan instant (R27): the exchange begins and the next instant keeps its spacing. -/
theorem scanStart_begins {s : State} {n : Nat} (dt : Nat) (hh : s.isHeld = false) (hn : s.levels.nextScan = some n)
    (hdue : n ≤ s.now + dt) (he : s.levels.exchanging = false) :
    ∃ t, exec (.scanStart dt) s = .next t ∧ LinksQuiet s t ∧
      t = { s with
            now := s.now + dt
            levels := { s.levels with exchanging := true, nextScan := some (n + 250) }
            links := t.links
            event := .blank } := by
  have hexec : exec (.scanStart dt) s = .next (s.beginEvent dt).beginScan.finishQuiet :=
    event_due State.scanDue (fun u => u.beginScan.finishQuiet) hh (by simp [State.scanDue, hn, he, hdue])
  refine ⟨_, hexec, fun l => finishQuiet_port_silent rfl rfl l, ?_⟩
  rw [finishQuiet_eq, beginScan_eq (s := s.beginEvent dt) hn]
  rfl

/-! ### The scanner's records after a scan (R29 to R34) -/

/-- An answer that counts has each channel judged on its own reading (R29, R30). -/
theorem scanChannels_of_counts (u : LevelScanner) (b : ConfigBlock) {a : ConverterAnswer} (h : answerCounts a = true)
    (p : Place) (i : Sensor) :
    readsAs ((b.channels.get p).get i) ((a.readings.get p).get i) (((u.scanChannels b a).get p).get i) := by
  rw [LevelScanner.scanChannels, if_pos h, PerPlace.get_of]
  cases i
  · exact readsAs_readChannelAt _ _
  · exact readsAs_readChannelAt _ _

/-- One that does not count leaves every channel LOST with its current (R28, R29). -/
theorem scanChannels_of_not_counts (u : LevelScanner) (b : ConfigBlock) {a : ConverterAnswer} (h : ¬answerCounts a = true)
    (p : Place) (i : Sensor) :
    ((u.scanChannels b a).get p).get i = ⟨((u.channels.get p).get i).current, .lost .noAnswer⟩ := by
  rw [LevelScanner.scanChannels, if_neg h, PerPlace.get_map, PerSensor.get_map]
  rfl

theorem scan_pair (u : LevelScanner) (b : ConfigBlock) (now : Nat) (a : ConverterAnswer) (p : Place) :
    (u.scan b now a).pairs.get p =
      (u.pairs.get p).update
        (pairOf b.agreementTolerance ((((u.scan b now a).channels.get p).get .one).reading)
          ((((u.scan b now a).channels.get p).get .two).reading)) now := by
  simp only [LevelScanner.scan, PerPlace.get_of]
  rfl

theorem scan_counter (u : LevelScanner) (b : ConfigBlock) (now : Nat) (a : ConverterAnswer) (c : Chamber) (e : End) :
    ((u.scan b now a).counters.get c).get e =
      nextCounter
        (matched b.equalizeWindow ((u.scan b now a).pairs.get (.chamber c)).state ((u.scan b now a).pairs.get (.pound e)).state)
        ((u.counters.get c).get e) := by
  simp only [LevelScanner.scan, PerChamber.get_of, PerEnd.get_of]

/-- The notices of a scan in their order: the chambers whose quality changed, then the lock for the pounds (R33). -/
theorem applyScan_produced (s : State) (a : ConverterAnswer) (h : s.event.produced = []) :
    (s.applyScan a).event.produced =
      ((Chamber.all.filter fun c => qualityChanged s.levels (s.applyScan a).levels (.chamber c)).map fun c =>
          Produced.levelQuality (.chamber c)) ++
        if qualityChanged s.levels (s.applyScan a).levels (.pound .upper) ||
            qualityChanged s.levels (s.applyScan a).levels (.pound .lower)
        then [.levelQuality .lock] else [] := by
  rw [applyScan_eq, h, List.nil_append, qualitySubjects, List.map_append, List.map_map, apply_ite (List.map Produced.levelQuality)]
  rfl

/-- Settles O52: the scan instant begins the exchange, and the completion brings each record up to date by its own rule. -/
theorem scanBringsImageUpToDate : Obligations.ScanBringsImageUpToDate := by
  intro dt s hh
  refine ⟨fun n hn hdue he => scanStart_begins dt hh hn hdue he, fun a b hb he => ?_⟩
  have hcfg : (s.beginEvent dt).cfg = b := by simp [State.cfg, hb]
  have hlevels : ((s.beginEvent dt).applyScan a).levels = s.levels.scan b (s.now + dt) a := by
    rw [applyScan_levels, hcfg]
    rfl
  refine ⟨scanCompletion_takesPlace dt a hh he, ?_⟩
  have hproduced := applyScan_produced (s.beginEvent dt) a rfl
  dsimp only
  rw [hlevels] at hproduced ⊢
  refine ⟨rfl, rfl, rfl, rfl, fun p i => ?_, fun p => ?_, fun c e => ?_, hproduced⟩
  · split
    · next hcounts => exact scanChannels_of_counts s.levels b ((answerCounts_iff a).mpr hcounts) p i
    · next hcounts => exact scanChannels_of_not_counts s.levels b (fun h => hcounts ((answerCounts_iff a).mp h)) p i
  · have hpair := scan_pair s.levels b (s.now + dt) a p
    have hstate := congrArg (·.state) hpair
    refine ⟨?_, ?_⟩
    · rw [hstate]
      exact pairsAs_pairOf _ _ _
    · rw [hstate, hpair]
      rfl
  · rw [scan_counter]
    split
    · next x y hx hy => exact nextCounter_of_values _ _ hx hy
    · next h => exact nextCounter_of_unusable _ _ h

/-! ### The sill test (R36, R37) -/

theorem depth_eq_none_iff (s : State) (c : Chamber) (e : End) :
    s.depth? c e = none ↔ (s.levels.pairs.get (.pound e)).last = none := by
  simp [State.depth?, State.lastLevel?]

/-- Without a depth at either end the test fails as LEVEL (R37). -/
theorem sillTest_of_no_depth (s : State) (c : Chamber) (draught : Nat)
    (h : s.depth? c .upper = none ∨ s.depth? c .lower = none) : s.sillTest c draught = some .level := by
  unfold State.sillTest
  split
  · next x y hx hy => simp [hx, hy] at h
  · rfl

theorem sillTest_of_depths {s : State} {c : Chamber} {x y : Int} (draught : Nat) (hx : s.depth? c .upper = some x)
    (hy : s.depth? c .lower = some y) :
    s.sillTest c draught =
      if x < draught * 10 + s.cfg.keelClearance ∨ y < draught * 10 + s.cfg.keelClearance then some .sill else none := by
  simp only [State.sillTest, hx, hy, Bool.or_eq_true, decide_eq_true_eq]

/-- Settles O53. -/
theorem sillTestOutcomes : Obligations.SillTestOutcomes := by
  intro s c draught
  refine ⟨fun e => ?_, fun h => ?_, fun x y hx hy => ⟨fun h => ?_, fun h => ?_⟩⟩
  · rw [State.depth?, State.lastLevel?, Option.map_map]
    cases e <;> rfl
  · exact sillTest_of_no_depth s c draught (h.imp (depth_eq_none_iff s c .upper).mpr (depth_eq_none_iff s c .lower).mpr)
  · rw [sillTest_of_depths draught hx hy, if_pos h]
  · rw [sillTest_of_depths draught hx hy, if_neg (by omega)]

end Sys2Proof.Machine.WaterLevels

/-! ## The requests that only read (R41, R106, R121, R122, R158, R170, R175, R178, R187) -/

namespace Sys2Proof.Machine.WaterLevels

/-! ### Places in a plan and in a stack of saved plans (R121) -/

/-- The first place of a handle in a list. -/
theorem placeOf_of_standsAt {h n : Nat} {hs : List Nat} (hn : standsAt h hs n) : placeOf h hs = some n := by
  obtain ⟨h1, hat, hbefore⟩ := hn
  have hfind : hs.findIdx? (fun x => decide (x = h)) = some (n - 1) := by
    obtain ⟨hlt, hget⟩ := List.getElem?_eq_some_iff.mp hat
    refine List.findIdx?_eq_some_iff_getElem.mpr ⟨hlt, by simpa using hget, fun j hj => ?_⟩
    have hmem : hs[j]'(by omega) ∈ hs.take (n - 1) := List.mem_take_iff_getElem.mpr ⟨j, by omega, rfl⟩
    exact fun heq => hbefore (of_decide_eq_true heq ▸ hmem)
  rw [placeOf, hfind, Option.map_some, Nat.sub_add_cancel h1]

theorem placeOf_eq_none_iff {h : Nat} {hs : List Nat} : placeOf h hs = none ↔ h ∉ hs := by
  simp only [placeOf, Option.map_eq_none_iff, List.findIdx?_eq_none_iff, decide_eq_false_iff_not]
  exact ⟨fun hne hmem => hne h hmem rfl, fun hmem x hx heq => hmem (heq ▸ hx)⟩

/-- The place of a saved plan, counted on from any number, and the place within it. -/
theorem findSome_savedPlace {h i n : Nat} {stack : List SavedPlan} {p : SavedPlan} (k : Nat) (hp : stack[i]? = some p)
    (hbefore : ∀ q ∈ stack.take i, h ∉ q.handles) (hn : standsAt h p.handles n) :
    ((stack.zipIdx k).findSome? fun x => (placeOf h x.1.handles).map fun n => (x.2, n)) = some (k + i, n) := by
  induction stack generalizing i k with
  | nil => cases hp
  | cons q stack ih =>
    rw [List.zipIdx_cons, List.findSome?_cons]
    cases i with
    | zero =>
      obtain rfl : q = p := by simpa using hp
      rw [placeOf_of_standsAt hn]
      rfl
    | succ i =>
      have hq : placeOf h q.handles = none := placeOf_eq_none_iff.mpr (hbefore q (by simp))
      rw [hq]
      have htail := ih (k + 1) (i := i) (by simpa using hp) fun r hr => hbefore r (by simp [hr])
      simpa [Nat.add_assoc, Nat.add_comm 1 i] using htail

theorem savedPlaceOf_of_standsAt {h i n : Nat} {stack : List SavedPlan} {p : SavedPlan} (h1 : 1 ≤ i)
    (hp : stack[i - 1]? = some p) (hbefore : ∀ q ∈ stack.take (i - 1), h ∉ q.handles) (hn : standsAt h p.handles n) :
    savedPlaceOf h stack = some (i, n) := by
  rw [savedPlaceOf, findSome_savedPlace 1 hp hbefore hn]
  exact congrArg (fun x => some (x, n)) (by omega)

theorem priority_eq_configured (s : State) (k : VesselClass) : s.priority k = configuredPriority s k := by
  cases k <;> rfl

theorem exempt_iff (k : VesselClass) : k.exempt = decide (k = .service ∨ k = .emergency) := by
  cases k <;> rfl

theorem planHandles_of_lockage {s : State} {c : Chamber} {l : LockageRecord} (h : (s.seq c).lockage = some l) :
    s.planHandles c = l.plan.map (·.handle) := by
  simp only [State.planHandles, h]

/-- READ VESSEL's view is the one that R121 lists. -/
theorem vesselView_viewOf (s : State) (v : Vessel) : viewOf s v (s.vesselView v) := by
  refine ⟨rfl, priority_eq_configured s v.cls, exempt_iff v.cls, ?_, ?_, ?_, ?_⟩
  · rintro c l n (hv | hv) hl hn
    · simp only [State.vesselView, hv, planHandles_of_lockage hl]
      exact placeOf_of_standsAt hn
    · simp only [State.vesselView, hv, planHandles_of_lockage hl]
      exact placeOf_of_standsAt hn
  · intro c i p n hv h1 hp hbefore hn
    simp only [State.vesselView, hv]
    exact savedPlaceOf_of_standsAt h1 hp hbefore hn
  · rintro (hv | ⟨c, hv⟩)
    · simp only [State.vesselView, hv]
    · simp only [State.vesselView, hv]
  · intro hv
    unfold State.vesselView
    dsimp only
    split
    · next c hc => exact absurd hc (hv c)
    · rfl

/-! ### The entries of a queue (R122) -/

/-- A window of a list with its places, read entry by entry. -/
theorem filterMap_window {α β : Type} (g : α → Nat → Option β) (l : List α) (n k : Nat) :
    (((l.zipIdx).drop n).take k).filterMap (fun x => g x.1 x.2) =
      (List.range k).filterMap fun i => (l[n + i]?).bind fun a => g a (n + i) := by
  induction k with
  | zero => rfl
  | succ k ih =>
    rw [List.take_add_one, List.filterMap_append, ih, List.range_succ, List.filterMap_append, List.getElem?_drop,
      List.getElem?_zipIdx]
    cases hl : l[n + k]? with
    | none => simp [hl]
    | some a => cases hg : g a (n + k) <;> simp [hl, hg]

theorem vessel_handle {s : State} {h : Nat} {v : Vessel} (hv : s.vessel? h = some v) : v.handle = h := by
  simpa using List.find?_some (p := fun v : Vessel => decide (v.handle = h)) hv

/-- The entries of READ QUEUE, place by place (R122). -/
theorem queueEntries_eq (s : State) (e : End) (n : Nat) :
    s.queueEntries e n =
      (List.range 16).filterMap fun i => ((s.traffic.queues.get e)[n + i]?.bind s.vessel?).map fun v =>
        { place := n + i, handle := v.handle, mark := v.mark, cls := v.cls, priority := configuredPriority s v.cls,
          arrival := v.arrival, deferral := v.deferral } := by
  refine (filterMap_window (fun h place => s.queueView place h) _ n 16).trans (List.filterMap_congr fun i _ => ?_)
  cases (s.traffic.queues.get e)[n + i]? with
  | none => rfl
  | some h =>
    cases hv : s.vessel? h with
    | none => simp [State.queueView, hv]
    | some v => simp [State.queueView, hv, vessel_handle hv, priority_eq_configured]

/-- A queue's deferred vessels are counted by their deferrals (R120). -/
theorem deferredOf_length (s : State) (e : End) :
    (s.deferredOf e).length =
      ((s.traffic.queues.get e).filter fun h => ((s.vessel? h).bind (·.deferral)).isSome).length := by
  have hentry (h : Nat) : (s.deferredEntry? h).isSome = ((s.vessel? h).bind (·.deferral)).isSome := by
    unfold State.deferredEntry?
    cases s.vessel? h with
    | none => rfl
    | some v => simp
  rw [State.deferredOf, List.length_filterMap_eq_countP, ← List.countP_eq_length_filter]
  exact List.countP_congr fun h _ => by rw [hentry]

/-! ### The figures of READ STATUS (R41, R187) -/

theorem versionOf_pending (p : Option PendingTariff) :
    versionOf (p.map (·.tariff)) = (p.map (·.tariff.version)).getD 0 := by
  cases p <;> rfl

/-- Section 5 shows the lost ages of the most recent scan completion, and none before the first (R41). -/
theorem levelStatus_lostAge (s : State) (p : Place) :
    s.levelStatus.lostAges.get p = s.levels.lastScan.bind fun moment => s.levels.lostAgeAt moment p :=
  PerPlace.get_of _ p

theorem lostAgeAt_of_last {s : State} {p : Place} {l : LastValid} (moment : Nat) (h : (s.levels.pairs.get p).last = some l) :
    s.levels.lostAgeAt moment p = if (s.level? p).isSome then some 0 else some (moment - l.time) := by
  simp only [LevelScanner.lostAgeAt, h]
  rfl

/-- A pair that never had a value counts from the first scan (R32). -/
theorem lostAgeAt_of_never {s : State} {p : Place} (moment : Nat) (h : (s.levels.pairs.get p).last = none) :
    s.levels.lostAgeAt moment p = if (s.level? p).isSome then some 0 else s.levels.firstScan.map fun x => moment - x := by
  simp only [LevelScanner.lostAgeAt, h]
  rfl

/-! ### Each read -/

/-- A check that holds is passed (R185). -/
theorem check_of_true (u : State) (r : Result) (a : Answer) : u.check true r a = a := rfl

section
variable {dt : Nat} {f : Frame} {s : State}

theorem present_answers (hr : Ready s f) (hl : f.lengthMatches = true) (hf : f.link ≠ .toll) :
    OnlyAnswered s dt f 3 .ok (.presence f.link s.auth) (exec (.present dt f) s) := by
  refine read_onlyAnswered (body := presentBody f) hr ?_
  have hop : f.link.operates = true := by simpa [Link.operates] using hf
  rw [presentBody, hop, hl]
  rfl

theorem peekRecord_answers (hr : Ready s f) (hl : f.lengthMatches = true) (hf : f.link = .toll) {r : ChargeRecord}
    {rs : List ChargeRecord} (hj : s.acct.journal = r :: rs) :
    OnlyAnswered s dt f 28 .ok (.record (recordBytes r) (rs.length + 1)) (exec (.peekRecord dt f) s) := by
  refine read_onlyAnswered (body := peekRecordBody f) hr ?_
  have hj' : (s.taken dt f).acct.journal = r :: rs := hj
  simp only [peekRecordBody, Link.isToll, hf, hl, hj', decide_true, check_of_true]

theorem readPeriodImage_answers (hr : Ready s f) (hl : f.lengthMatches = true) (hf : f.link = .toll) {n : Nat} (hn : n ≤ 255)
    {i : ImageContents} (hi : s.acct.image.contents = some i) :
    OnlyAnswered s dt f 31 .ok (.periodEntry (i.entries.getD n ⟨0, false, 0⟩) s.acct.image.period i.closeTime i.clockSet)
      (exec (.readPeriodImage dt f n) s) := by
  refine read_onlyAnswered (body := readPeriodImageBody f n) hr ?_
  have hi' : (s.taken dt f).acct.image.contents = some i := hi
  simp only [readPeriodImageBody, Link.isToll, hf, hl, hn, hi', decide_true, Bool.and_self, check_of_true]
  rfl

/-- A section of READ STATUS is answered with its data (R187). -/
theorem readStatus_answers (hr : Ready s f) (hl : f.lengthMatches = true) {k : Nat} {d : ReplyData}
    (hd : (s.taken dt f).sectionData? k = some d) : OnlyAnswered s dt f 32 .ok d (exec (.readStatus dt f k) s) := by
  refine read_onlyAnswered (body := readStatusBody f k) hr ?_
  rw [readStatusBody, hd, hl]
  rfl

theorem readStatus_refuses (hr : Ready s f) {k : Nat} (hk : k < 1 ∨ 5 < k) :
    OnlyAnswered s dt f 32 .badValue .none (exec (.readStatus dt f k) s) := by
  refine refused_onlyAnswered (body := readStatusBody f k) hr ?_
  have hd : (s.taken dt f).sectionData? k = none := by
    unfold State.sectionData?
    split <;> [omega; omega; omega; omega; omega; rfl]
  rw [readStatusBody, hd]

theorem readVessel_answers (hr : Ready s f) (hl : f.lengthMatches = true) {h : Nat} {m : Option Mark} {v : Vessel}
    (hv : s.vessel? h = some v) (hm : m = none ∨ m = some v.mark) :
    OnlyAnswered s dt f 33 .ok (.vessel (s.vesselView v)) (exec (.readVessel dt f h m) s) := by
  refine read_onlyAnswered (body := readVesselBody f h m) hr ?_
  have hres : (s.taken dt f).resolve h m = some v := by
    have hv' : (s.taken dt f).vessel? h = some v := hv
    simp only [State.resolve, hv', hm, if_true]
  rw [readVesselBody, hres, hl]
  rfl

theorem readQueue_answers (hr : Ready s f) (hl : f.lengthMatches = true) (e : End) {n : Nat} (hn : n ≤ 47) :
    OnlyAnswered s dt f 34 .ok (.queue (s.traffic.queues.get e).length (s.deferredOf e).length (s.queueEntries e n))
      (exec (.readQueue dt f (some e) n) s) := by
  refine read_onlyAnswered (body := readQueueBody f (some e) n) hr ?_
  simp only [readQueueBody, hl, hn, decide_true, Bool.and_self, check_of_true]
  rfl

theorem readTariff_answers (hr : Ready s f) (hl : f.lengthMatches = true) {x : Slot} {d : ReplyData}
    (hd : s.charge.slotData? x = some d) : OnlyAnswered s dt f 35 .ok d (exec (.readTariff dt f (some x)) s) := by
  refine read_onlyAnswered (body := readTariffBody f (some x)) hr ?_
  have hd' : (s.taken dt f).charge.slotData? x = some d := hd
  simp only [readTariffBody, hl, hd', check_of_true]

theorem readAccount_answers (hr : Ready s f) (hl : f.lengthMatches = true) {n : Nat} (hn : n ≤ 255) :
    OnlyAnswered s dt f 36 .ok (.account (s.account n) s.acct.period) (exec (.readAccount dt f n) s) := by
  refine read_onlyAnswered (body := readAccountBody f n) hr ?_
  simp only [readAccountBody, hl, hn, decide_true, Bool.and_self, check_of_true]
  rfl

end

/-- Settles O12: each read finds its figures in the state as the request finds it, which shows what the state before showed. -/
theorem readsOnlyAnswer : Obligations.ReadsOnlyAnswer := by
  intro dt f s hr hl
  refine ⟨present_answers hr hl, fun r rs hf hj => peekRecord_answers hr hl hf hj,
    fun n i hf hn hi => readPeriodImage_answers hr hl hf hn hi, readStatus_answers hr hl ?_, fun c n hcn => ?_,
    readStatus_answers hr hl rfl, ⟨s.levelStatus, readStatus_answers hr hl rfl, rfl, rfl, rfl, rfl, fun p => ?_⟩,
    fun k hk => readStatus_refuses hr hk, fun h m v hv hm => ⟨_, vesselView_viewOf s v, readVessel_answers hr hl hv hm⟩,
    fun e n hn => ?_, fun t ht => readTariff_answers hr hl ?_, fun p hp => readTariff_answers hr hl ?_,
    fun n hn => readAccount_answers hr hl hn⟩
  · rw [← versionOf_pending]
    rfl
  · simp only [List.mem_cons, Prod.mk.injEq, List.not_mem_nil, or_false] at hcn
    rcases hcn with ⟨rfl, rfl⟩ | ⟨rfl, rfl⟩
    · exact readStatus_answers hr hl rfl
    · exact readStatus_answers hr hl rfl
  · rw [levelStatus_lostAge]
    cases s.levels.lastScan with
    | none => rfl
    | some m =>
      cases hlast : (s.levels.pairs.get p).last with
      | none => exact lostAgeAt_of_never m hlast
      | some l => exact lostAgeAt_of_last m hlast
  · dsimp only
    rw [← queueEntries_eq, ← deferredOf_length]
    exact readQueue_answers hr hl e hn
  · rw [ChargeUnit.slotData?, ht]
    rfl
  · rw [ChargeUnit.slotData?, hp]
    rfl

end Sys2Proof.Machine.WaterLevels

/-! ## The water charge and its sharing (R85, R161, R163, R164) -/

namespace Sys2Proof.Machine.WaterSharing

/-! ### Giving the leftover units (R163) -/

/-- An element in the middle of a list stands at the length of what is before it, and replacing it leaves every other place. -/
theorem getElem?_middle {α : Type} (before after : List α) (x y : α) (i : Nat) :
    (before ++ x :: after)[i]? = if i = before.length then some x else (before ++ y :: after)[i]? := by
  rw [List.getElem?_append, List.getElem?_append]
  split_ifs with hlt heq heq
  · omega
  · rfl
  · simp [heq]
  · obtain ⟨k, hk⟩ := Nat.exists_eq_succ_of_ne_zero (n := i - before.length) (by omega)
    rw [hk]
    rfl

/-- The unit goes to the first entry that still has the remainder. -/
theorem giveOne_first {m : Nat} {es : List (Nat × Option Nat)} (h : ∃ e ∈ es, e.2 = some m) :
    ∃ before a after, es = before ++ (a, some m) :: after ∧ giveOne m es = before ++ (a + 1, none) :: after ∧
      ∀ e ∈ before, e.2 ≠ some m := by
  induction es with
  | nil => simp at h
  | cons e es ih =>
    by_cases he : e.2 = some m
    · exact ⟨[], e.1, es, by rw [← he]; rfl, if_pos he, by simp⟩
    · obtain ⟨before, a, after, hes, hgive, hfirst⟩ := ih (by simpa [he] using h)
      refine ⟨e :: before, a, after, by rw [hes]; rfl, ?_, ?_⟩
      · rw [giveOne, if_neg he, hgive]
        rfl
      · simpa [he] using hfirst

/-- Giving one unit more: with no remainder left nothing is given; otherwise the first entry of the largest remainder takes a unit
and is chosen no more, and the others follow. -/
theorem giveUnits_succ_cases (d : Nat) (es : List (Nat × Option Nat)) :
    (giveUnits (d + 1) es = es ∧ ∀ e ∈ es, e.2 = none) ∨
    ∃ m before a after, es = before ++ (a, some m) :: after ∧
      giveUnits (d + 1) es = giveUnits d (before ++ (a + 1, none) :: after) ∧
      (∀ e ∈ before, e.2 ≠ some m) ∧ ∀ e ∈ es, ∀ q, e.2 = some q → q ≤ m := by
  rw [giveUnits]
  split
  · next m hm =>
    obtain ⟨hmem, hmax⟩ := List.max?_eq_some_iff.mp hm
    obtain ⟨before, a, after, hes, hgive, hfirst⟩ := giveOne_first (List.mem_filterMap.mp hmem)
    exact .inr ⟨m, before, a, after, hes, by rw [hgive], hfirst,
      fun e he q hq => hmax q (List.mem_filterMap.mpr ⟨e, he, hq⟩)⟩
  · next hm => exact .inl ⟨rfl, by simpa using hm⟩

@[simp] theorem giveUnits_length (d : Nat) (es : List (Nat × Option Nat)) : (giveUnits d es).length = es.length := by
  induction d generalizing es with
  | zero => rfl
  | succ d ih =>
    obtain ⟨h, -⟩ | ⟨m, before, a, after, hes, h, -, -⟩ := giveUnits_succ_cases d es
    · rw [h]
    · rw [h, ih, hes]
      simp

/-- An entry that has been chosen is left as it is. -/
theorem giveUnits_chosen {d i a : Nat} {es : List (Nat × Option Nat)} (h : es[i]? = some (a, none)) :
    (giveUnits d es)[i]? = some (a, none) := by
  induction d generalizing es with
  | zero => exact h
  | succ d ih =>
    obtain ⟨hd, -⟩ | ⟨m, before, b, after, hes, hd, -, -⟩ := giveUnits_succ_cases d es
    · rwa [hd]
    · rw [hd]
      apply ih
      rw [hes, getElem?_middle _ _ _ (b + 1, none)] at h
      split_ifs at h
      · simp at h
      · exact h

/-- An entry with its remainder keeps its floor and its remainder, or is chosen and takes one unit. -/
theorem giveUnits_unchosen {d i a r : Nat} {es : List (Nat × Option Nat)} (h : es[i]? = some (a, some r)) :
    (giveUnits d es)[i]? = some (a, some r) ∨ (giveUnits d es)[i]? = some (a + 1, none) := by
  induction d generalizing es with
  | zero => exact .inl h
  | succ d ih =>
    obtain ⟨hd, -⟩ | ⟨m, before, b, after, hes, hd, -, -⟩ := giveUnits_succ_cases d es
    · rw [hd]
      exact .inl h
    · rw [hd]
      rw [hes, getElem?_middle _ _ _ (b + 1, none)] at h
      split_ifs at h with hi
      · obtain ⟨rfl, rfl⟩ : b = a ∧ m = r := by simpa using h
        exact .inr (giveUnits_chosen (by rw [getElem?_middle _ _ _ (b, some m), if_pos hi]))
      · exact ih h

/-- A chosen entry goes before every entry that is not: its remainder is larger, or the same and it stands earlier. -/
theorem giveUnits_order {d i j a b r q : Nat} {es : List (Nat × Option Nat)} (hi : es[i]? = some (a, some r))
    (hj : es[j]? = some (b, some q)) (hchosen : (giveUnits d es)[i]? = some (a + 1, none))
    (hkept : (giveUnits d es)[j]? = some (b, some q)) : q < r ∨ (q = r ∧ i < j) := by
  induction d generalizing es with
  | zero =>
    rw [giveUnits, hi] at hchosen
    simp at hchosen
  | succ d ih =>
    obtain ⟨hd, -⟩ | ⟨m, before, e, after, hes, hd, hfirst, hmax⟩ := giveUnits_succ_cases d es
    · rw [hd, hi] at hchosen
      simp at hchosen
    · have hnext := fun k => getElem?_middle before after (e + 1, none) (e, some m) k
      rw [← hes] at hnext
      rw [hd] at hchosen hkept
      have hne : j ≠ before.length := by
        intro h
        rw [giveUnits_chosen (by rw [hnext, if_pos h])] at hkept
        simp at hkept
      by_cases hp : i = before.length
      · obtain ⟨-, hr⟩ : e = a ∧ m = r := by simpa [hes, hp] using hi
        have hle : q ≤ m := hmax _ (List.mem_of_getElem? hj) q rfl
        have hlater : q = m → before.length ≤ j := by
          intro hq
          by_contra hlt
          rw [hes, List.getElem?_append_left (by omega)] at hj
          exact hfirst _ (List.mem_of_getElem? hj) (congrArg some hq)
        omega
      · exact ih (by rw [hnext, if_neg hp, hi]) (by rw [hnext, if_neg hne, hj]) hchosen hkept

/-- The entries that still have a remainder above 0. -/
def positives (es : List (Nat × Option Nat)) : Nat := es.countP fun e => decide (0 < e.2.getD 0)

theorem positives_eq_zero {es : List (Nat × Option Nat)} (h : ∀ e ∈ es, e.2 = none) : positives es = 0 := by
  rw [positives, List.countP_eq_zero]
  intro e he
  simp [h e he]

/-- While an entry has a remainder above 0, the largest remainder is above 0, and its entry is one of those fewer afterwards. -/
theorem positives_give {d m a : Nat} {before after es : List (Nat × Option Nat)} (hes : es = before ++ (a, some m) :: after)
    (hmax : ∀ e ∈ es, ∀ q, e.2 = some q → q ≤ m) (h : d + 1 ≤ positives es) :
    0 < m ∧ d ≤ positives (before ++ (a + 1, none) :: after) := by
  have hm : 0 < m := by
    obtain ⟨e, he, hpos⟩ := List.countP_pos_iff.mp (show 0 < positives es by omega)
    cases hr : e.2 with
    | none => simp [hr] at hpos
    | some q =>
      have hq : 0 < q := by simpa [hr] using hpos
      exact hq.trans_le (hmax e he q hr)
  have hfewer : positives es = positives (before ++ (a + 1, none) :: after) + 1 := by
    simp [hes, positives, hm, Nat.add_assoc]
  exact ⟨hm, by omega⟩

/-- Every unit is given while entries with a remainder above 0 are left. -/
theorem giveUnits_sum {d : Nat} {es : List (Nat × Option Nat)} (h : d ≤ positives es) :
    ((giveUnits d es).map Prod.fst).sum = (es.map Prod.fst).sum + d := by
  induction d generalizing es with
  | zero => rfl
  | succ d ih =>
    obtain ⟨-, hnone⟩ | ⟨m, before, a, after, hes, hd, -, hmax⟩ := giveUnits_succ_cases d es
    · rw [positives_eq_zero hnone] at h
      omega
    · rw [hd, ih (positives_give hes hmax h).2, hes]
      simp only [List.map_append, List.map_cons, List.sum_append, List.sum_cons]
      omega

/-- While such entries are left, an entry of remainder 0 takes nothing. -/
theorem giveUnits_zero {d i a : Nat} {es : List (Nat × Option Nat)} (h : d ≤ positives es) (hi : es[i]? = some (a, some 0)) :
    (giveUnits d es)[i]? = some (a, some 0) := by
  induction d generalizing es with
  | zero => exact hi
  | succ d ih =>
    obtain ⟨hd, -⟩ | ⟨m, before, b, after, hes, hd, -, hmax⟩ := giveUnits_succ_cases d es
    · rwa [hd]
    · obtain ⟨hm, hleft⟩ := positives_give hes hmax h
      rw [hd]
      apply ih hleft
      rw [hes, getElem?_middle _ _ _ (b + 1, none)] at hi
      split_ifs at hi
      · obtain ⟨-, hzero⟩ : b = a ∧ m = 0 := by simpa using hi
        omega
      · exact hi

/-! ### The shares of the water charge (R163) -/

/-- Each entry with the whole units of its share and its remainder, before the leftover units are given. -/
def floors (c : Nat) (lengths : List Nat) : List (Nat × Option Nat) :=
  lengths.map fun l => (c * l / lengths.sum, some (c * l % lengths.sum))

/-- The units that the whole units leave over. -/
def leftover (c : Nat) (lengths : List Nat) : Nat := c - ((floors c lengths).map Prod.fst).sum

theorem waterShares_of_no_length {lengths : List Nat} (c : Nat) (h : lengths.sum = 0) :
    waterShares c lengths = lengths.map fun _ => 0 := if_pos h

theorem waterShares_of_length {lengths : List Nat} (c : Nat) (h : lengths.sum ≠ 0) :
    waterShares c lengths = (giveUnits (leftover c lengths) (floors c lengths)).map Prod.fst := if_neg h

/-- Quotients and remainders by one divisor make up the sum. -/
theorem sum_div_mod (t c : Nat) (ls : List Nat) :
    t * (ls.map fun l => c * l / t).sum + (ls.map fun l => c * l % t).sum = c * ls.sum := by
  induction ls with
  | nil => simp
  | cons l ls ih =>
    have hl := Nat.div_add_mod (c * l) t
    simp only [List.map_cons, List.sum_cons, Nat.mul_add]
    omega

/-- Remainders below `t` add up to at most `t` for each that is above 0. -/
theorem sum_le_mul_countP {t : Nat} {rs : List Nat} (h : ∀ r ∈ rs, r < t) :
    rs.sum ≤ t * rs.countP fun r => decide (0 < r) := by
  induction rs with
  | nil => simp
  | cons r rs ih =>
    have hr := h r (by simp)
    have hrs := ih fun x hx => h x (by simp [hx])
    rw [List.sum_cons, List.countP_cons]
    by_cases hpos : 0 < r
    · simp only [hpos, decide_true, if_true, Nat.mul_add, Nat.mul_one]
      omega
    · simp only [hpos, decide_false, Bool.false_eq_true, if_false, Nat.add_zero]
      omega

/-- The whole units together are no more than the charge, and what they leave over is no more than the entries with a remainder. -/
theorem leftover_bounds {c : Nat} {lengths : List Nat} (h : lengths.sum ≠ 0) :
    ((floors c lengths).map Prod.fst).sum + leftover c lengths = c ∧
      leftover c lengths ≤ positives (floors c lengths) := by
  have ht : 0 < lengths.sum := Nat.pos_of_ne_zero h
  have hwhole : (floors c lengths).map Prod.fst = lengths.map fun l => c * l / lengths.sum := by simp [floors]
  have hpos : positives (floors c lengths) =
      (lengths.map fun l => c * l % lengths.sum).countP fun r => decide (0 < r) := by
    simp only [positives, floors, List.countP_map]
    rfl
  have hsplit := sum_div_mod lengths.sum c lengths
  have hrest : (lengths.map fun l => c * l % lengths.sum).sum ≤ lengths.sum * positives (floors c lengths) := by
    rw [hpos]
    apply sum_le_mul_countP
    simp [Nat.mod_lt _ ht]
  rw [leftover, hwhole]
  have hle : (lengths.map fun l => c * l / lengths.sum).sum ≤ c :=
    Nat.le_of_mul_le_mul_left (by rw [Nat.mul_comm _ c]; omega) ht
  refine ⟨by omega, Nat.le_of_mul_le_mul_left ?_ ht⟩
  rw [Nat.mul_sub, Nat.mul_comm _ c]
  omega

theorem waterShares_length (c : Nat) (lengths : List Nat) : (waterShares c lengths).length = lengths.length := by
  by_cases h : lengths.sum = 0
  · simp [waterShares_of_no_length c h]
  · simp [waterShares_of_length c h, floors]

theorem waterShares_sum (c : Nat) (lengths : List Nat) :
    (waterShares c lengths).sum + unallocatedWater c lengths = c := by
  by_cases h : lengths.sum = 0
  · simp [waterShares_of_no_length c h, unallocatedWater, h]
  · obtain ⟨hsum, hleft⟩ := leftover_bounds (c := c) h
    rw [waterShares_of_length c h, giveUnits_sum hleft, hsum, unallocatedWater, if_neg h]
    rfl

/-- The share of an entry: its whole units while its remainder is kept, one more when it is chosen. -/
theorem share_cases {c i l x : Nat} {lengths : List Nat} (h : lengths.sum ≠ 0) (hl : lengths[i]? = some l)
    (hx : (waterShares c lengths)[i]? = some x) :
    (floors c lengths)[i]? = some (c * l / lengths.sum, some (c * l % lengths.sum)) ∧
      (((giveUnits (leftover c lengths) (floors c lengths))[i]? = some (c * l / lengths.sum, some (c * l % lengths.sum)) ∧
          x = c * l / lengths.sum) ∨
        ((giveUnits (leftover c lengths) (floors c lengths))[i]? = some (c * l / lengths.sum + 1, none) ∧
          x = c * l / lengths.sum + 1)) := by
  have hfloor : (floors c lengths)[i]? = some (c * l / lengths.sum, some (c * l % lengths.sum)) := by
    simp [floors, hl]
  rw [waterShares_of_length c h, List.getElem?_map] at hx
  refine ⟨hfloor, (giveUnits_unchosen hfloor).imp (fun hk => ⟨hk, ?_⟩) fun hk => ⟨hk, ?_⟩⟩
  · simpa [hk] using hx.symm
  · simpa [hk] using hx.symm

theorem share_of_no_length {c i x : Nat} {lengths : List Nat} (hl : lengths[i]? = some 0)
    (hx : (waterShares c lengths)[i]? = some x) : x = 0 := by
  by_cases h : lengths.sum = 0
  · rw [waterShares_of_no_length c h, List.getElem?_map, hl] at hx
    simpa using hx.symm
  · obtain ⟨hfloor, -⟩ := share_cases h hl hx
    rw [waterShares_of_length c h, List.getElem?_map,
      giveUnits_zero (leftover_bounds h).2 (by simpa using hfloor)] at hx
    simpa using hx.symm

theorem share_eq {c i l x : Nat} {lengths : List Nat} (hl : lengths[i]? = some l)
    (hx : (waterShares c lengths)[i]? = some x) : x = c * l / lengths.sum ∨ x = c * l / lengths.sum + 1 := by
  by_cases h : lengths.sum = 0
  · rw [waterShares_of_no_length c h, List.getElem?_map, hl] at hx
    exact .inl (by simpa [h] using hx.symm)
  · exact (share_cases h hl hx).2.imp And.right And.right

/-- An entry that took a leftover unit goes before one that took none (R163). -/
theorem share_order {c i j l k x y : Nat} {lengths : List Nat} (h : lengths.sum ≠ 0) (hl : lengths[i]? = some l)
    (hk : lengths[j]? = some k) (hx : (waterShares c lengths)[i]? = some x) (hy : (waterShares c lengths)[j]? = some y)
    (hmore : x = c * l / lengths.sum + 1) (hnone : y = c * k / lengths.sum) :
    c * k % lengths.sum < c * l % lengths.sum ∨ (c * k % lengths.sum = c * l % lengths.sum ∧ i < j) := by
  obtain ⟨hi, ⟨-, hi'⟩ | ⟨hchosen, -⟩⟩ := share_cases h hl hx
  · omega
  obtain ⟨hj, ⟨hkept, -⟩ | ⟨-, hj'⟩⟩ := share_cases h hk hy
  · exact giveUnits_order hi hj hchosen hkept
  · omega

/-! ### The charge record (R85, R161, R164) -/

theorem natAbs_sub_eq_toNat_max (a b : Int) : (a - b).natAbs = (max (a - b) (b - a)).toNat := by omega

theorem travelOf_le (startMark endMark : Option Int) : travelOf startMark endMark ≤ 20000 := by
  unfold travelOf
  split
  · exact Nat.min_le_right ..
  · omega

theorem travelOf_of_unset {startMark endMark : Option Int} (h : startMark = none ∨ endMark = none) :
    travelOf startMark endMark = 0 := by
  unfold travelOf
  split
  · simp at h
  · rfl

theorem travelOf_of_marks (a b : Int) : travelOf (some a) (some b) = min (max (a - b) (b - a)).toNat 20000 := by
  rw [← natAbs_sub_eq_toNat_max]
  rfl

theorem volumeOf_le {area travel : Nat} (ha : area ≤ 5000) (ht : travel ≤ 20000) : volumeOf area travel ≤ 100000 := by
  have h : area * travel ≤ 5000 * 20000 := Nat.mul_le_mul ha ht
  unfold volumeOf
  omega

theorem waterChargeOf_le {volume rate : Nat} (hv : volume ≤ 100000) (hr : rate ≤ 100000) :
    waterChargeOf volume rate ≤ 100000000 := by
  have h : volume * rate ≤ 100000 * 100000 := Nat.mul_le_mul hv hr
  unfold waterChargeOf
  omega

theorem crossVolumeOf_eq (area : Nat) (c : Chamber) (l : LockageRecord) :
    crossVolumeOf area c l =
      match l.crossUsed, l.crossStart, l.crossEnd with
      | true, some a, some b => some (area * (max (b.get c - a.get c) (a.get c - b.get c)).toNat / 1000)
      | _, _, _ => none := by
  unfold crossVolumeOf
  cases l.crossUsed with
  | false => rfl
  | true =>
    cases l.crossStart with
    | none => rfl
    | some a =>
      cases l.crossEnd with
      | none => rfl
      | some b => exact congrArg (fun n => some (area * n / 1000)) (natAbs_sub_eq_toNat_max _ _)

theorem sharedLength_eq (cls : VesselClass) (length : Nat) :
    sharedLength cls length = if cls = .service ∨ cls = .emergency then 0 else length := by
  simp [sharedLength, WaterLevels.exempt_iff]

/-- The charge record, field by field: the lengths that share the water, the cross volume, and one entry for each vessel. -/
theorem chargeRecord_eq (s : State) (c : Chamber) (l : LockageRecord) (vs : List Vessel) :
    let r := s.chargeRecord c l vs
    let lengths := vs.map fun v => if v.cls = .service ∨ v.cls = .emergency then 0 else v.length
    r =
      { period := s.acct.period, serial := l.serial, chamber := c, direction := l.direction, formed := l.startTime
        finalized := s.lockTime, clockUnset := !l.snapshot.clockSet || !s.charge.clock.isSet
        version := l.snapshot.version, band := l.snapshot.band, factor := l.snapshot.factor
        travel := r.travel, volume := r.volume, waterCharge := r.waterCharge
        crossVolume :=
          match l.crossUsed, l.crossStart, l.crossEnd with
          | true, some a, some b =>
            some ((s.cfg.chambers.get c).planArea * (max (b.get c - a.get c) (a.get c - b.get c)).toNat / 1000)
          | _, _, _ => none
        unallocated := unallocatedWater r.waterCharge lengths
        emergency := l.emergency
        entries := (vs.zip (waterShares r.waterCharge lengths)).map fun x =>
          { mark := x.1.mark, account := x.1.account, cls := x.1.cls, length := x.1.length
            own := ownCharge l.snapshot x.1.cls x.1.length, share := x.2 } } := by
  dsimp only
  simp only [← sharedLength_eq, List.map_zip_eq_zipWith]
  rw [← crossVolumeOf_eq]
  rfl

/-- Settles O20: the figures of the record from the definitions, the sharing from the order in which leftover units are given. -/
theorem waterIsSharedOut : Obligations.WaterIsSharedOut := by
  refine ⟨fun s c l vs => ?_, fun c lengths => ?_⟩
  · have htravel := travelOf_le l.startMark l.endMark
    refine ⟨fun a b ha hb => ?_, travelOf_of_unset, ?_, ?_, fun ha hr => ?_, chargeRecord_eq s c l vs⟩
    · rw [← travelOf_of_marks, ← ha, ← hb]
      rfl
    · simp only [State.chargeRecord, volumeOf]
      omega
    · simp only [State.chargeRecord, waterChargeOf]
      omega
    · have hv := volumeOf_le ha htravel
      exact ⟨hv, waterChargeOf_le hv hr⟩
  · refine ⟨waterShares_length c lengths, waterShares_sum c lengths, fun h => if_pos h, fun h => if_neg h,
      fun i j l k x y hl hk hx hy => ?_⟩
    exact ⟨fun h0 => share_of_no_length (h0 ▸ hl) hx, share_eq hl hx, fun h => share_order h hl hk hx hy⟩

end Sys2Proof.Machine.WaterSharing

/-! ## How an exchange between the chambers ends (R78 to R81) -/

namespace Sys2Proof.Machine.CrossFilling

/-! ### A START request (R6) -/

@[simp] theorem startRequest_cross (s : State) (d : Device) (t : Target) : (s.startRequest d t).cross = s.cross := by
  obtain ⟨h, -⟩ | ⟨h, -⟩ | ⟨h, -⟩ := startRequest_cases s d t <;> rw [h] <;> rfl

@[simp] theorem startRequest_seqs (s : State) (d : Device) (t : Target) : (s.startRequest d t).seqs = s.seqs := by
  obtain ⟨h, -⟩ | ⟨h, -⟩ | ⟨h, -⟩ := startRequest_cases s d t <;> rw [h] <;> rfl

/-- A device with a START in the queue is not at rest (R1). -/
theorem atRest_of_startQueued {r : DeviceRecord} (h : r.startQueued = true) : r.atRest = false := by
  cases hq : r.queued with
  | none => simp [DeviceRecord.startQueued, DeviceRecord.queuedStart, hq] at h
  | some q => simp [DeviceRecord.atRest, hq]

/-- A START request of a device at rest short of its target, or with a START in the queue, places or retargets the entry. -/
theorem startRequest_places {s : State} {d : Device} {t : Target} (hf : (s.dev d).position ≠ .faulted)
    (hb : s.isBarred d = false)
    (h : ((s.dev d).atRest = true ∧ s.reached d t = false) ∨ (s.dev d).startQueued = true) :
    ((s.startRequest d t).dev d).queued = some ⟨.start t, s.now⟩ ∧
      ((s.startRequest d t).dev d).outstanding = some (.move t) := by
  obtain ⟨-, hno | hno | ⟨hrest, hreached⟩⟩ | ⟨he, -⟩ | ⟨-, -, -, hrest, hqueued⟩ := startRequest_cases s d t
  · exact absurd hno hf
  · simp [hb] at hno
  · obtain ⟨-, hshort⟩ | hqueued := h
    · simp [hshort] at hreached
    · simp [atRest_of_startQueued hqueued] at hrest
  · rw [he, setDev_dev_self]
    exact ⟨rfl, rfl⟩
  · obtain ⟨hrest', -⟩ | hqueued' := h
    · simp [hrest] at hrest'
    · simp [hqueued] at hqueued'

/-- Of a device that is neither at rest nor has a START in the queue it becomes the next start. -/
theorem startRequest_waits {s : State} {d : Device} {t : Target} (hf : (s.dev d).position ≠ .faulted)
    (hb : s.isBarred d = false) (hrest : (s.dev d).atRest = false) (hqueued : (s.dev d).startQueued = false) :
    ((s.startRequest d t).dev d).nextStart = some t ∧ ((s.startRequest d t).dev d).queued = (s.dev d).queued := by
  obtain ⟨-, hno | hno | ⟨hno, -⟩⟩ | ⟨-, -, -, ⟨hno, -⟩ | hno⟩ | ⟨he, -⟩ := startRequest_cases s d t
  · exact absurd hno hf
  · simp [hb] at hno
  · simp [hrest] at hno
  · simp [hrest] at hno
  · simp [hqueued] at hno
  · rw [he, setDev_dev_self]
    exact ⟨rfl, rfl⟩

/-! ### Ending an exchange (R79) -/

theorem endExchange_cross (s : State) :
    s.endExchange.cross =
      { s.cross with
        exchangeTimer := none
        claims := .of fun c => if s.granted c then (s.cross.claims.get c).map CrossClaim.stopped else s.cross.claims.get c
        stage := .closing } := startRequest_cross _ _ _

theorem endExchange_seq (s : State) (c : Chamber) : s.endExchange.seq c = { s.seq c with levelTimer := none } := by
  unfold State.endExchange State.seq
  rw [startRequest_seqs]
  exact PerChamber.get_map _ _ c

/-- A granted chamber's wait timer has stopped. -/
theorem endExchange_claim_stopped {s : State} {c : Chamber} {k : CrossClaim} (hg : s.granted c = true)
    (hk : s.endExchange.cross.claims.get c = some k) : k.waitRunning = false := by
  rw [endExchange_cross] at hk
  simp only [PerChamber.get_of, hg, if_true] at hk
  obtain ⟨j, -, rfl⟩ := Option.map_eq_some_iff.mp hk
  rfl

/-- XV at rest and not confirmed CLOSED, or with a START in the queue, has its START CLOSE in the queue. -/
theorem endExchange_closes {s : State} (hf : (s.dev .xv).position ≠ .faulted)
    (h : ((s.dev .xv).atRest = true ∧ s.confirmedClosed .xv = false) ∨ (s.dev .xv).startQueued = true) :
    (s.endExchange.dev .xv).queued = some ⟨.start .toClose, s.now⟩ ∧
      (s.endExchange.dev .xv).outstanding = some (.move .toClose) :=
  startRequest_places (d := .xv) hf rfl h

/-- XV in a transaction or a movement has CLOSE as its next start. -/
theorem endExchange_closesNext {s : State} (hf : (s.dev .xv).position ≠ .faulted) (hrest : (s.dev .xv).atRest = false)
    (hqueued : (s.dev .xv).startQueued = false) :
    (s.endExchange.dev .xv).nextStart = some .toClose ∧ (s.endExchange.dev .xv).queued = (s.dev .xv).queued :=
  startRequest_waits (d := .xv) hf rfl hrest hqueued

/-- A scan moves the stop counter; the third scan in a row with the head within the margin ends the exchange (R79). -/
theorem watchHead_flowing {s : State} (h : s.cross.stage = .flowing) :
    let n := if s.headWithin then min 3 (s.cross.stopCounter + 1) else 0
    s.watchHead.cross.stopCounter = n ∧ s.watchHead.cross.stage = (if n = 3 then .closing else .flowing) := by
  intro n
  rw [State.watchHead, if_pos h]
  dsimp only
  by_cases hn : n = 3
  · rw [if_pos hn, if_pos hn, endExchange_cross]
    exact ⟨rfl, rfl⟩
  · rw [if_neg hn, if_neg hn]
    exact ⟨rfl, h⟩

/-! ### The expiries (R78, R79, R81) -/

theorem waitDue_of_claim {s : State} {c : Chamber} {k : CrossClaim} (hk : s.cross.claims.get c = some k)
    (hr : k.waitRunning = true) (he : k.waitExpiry ≤ s.now) : s.waitDue c = true := by
  simp [State.waitDue, hk, hr, he]

theorem waitExpired_unmatched {s : State} {c : Chamber} (h : s.cross.stage = .none ∨ s.granted c = false) :
    s.waitExpired c = s.dropClaim c := by
  rw [State.waitExpired, if_pos (by simpa using h)]

theorem waitExpired_opening {s : State} {c : Chamber} {k : CrossClaim} (hk : s.cross.claims.get c = some k)
    (hs : s.cross.stage = .opening) (hg : s.granted c = true) :
    s.waitExpired c = (s.setClaim c (some { k with waitRunning := false })).endExchange := by
  rw [State.waitExpired, if_neg (by simp [hs, hg]), if_pos hs, hk]
  rfl

/-- The expiry of a running wait timer takes the effect that the arbiter gives it. -/
theorem crossWaitExpiry_takesPlace {s : State} {dt : Nat} {c : Chamber} {k : CrossClaim} {op : State → State}
    (hh : s.isHeld = false) (hk : s.cross.claims.get c = some k) (hr : k.waitRunning = true)
    (he : k.waitExpiry ≤ s.now + dt) (hop : (s.beginEvent dt).waitExpired c = op (s.beginEvent dt)) :
    TakesPlace s dt op { s.frame with now := s.now + dt } (exec (.crossWaitExpiry dt c) s) := by
  refine takesPlace_skeleton ?_ (hop ▸ WaterLevels.waitExpired_skeleton _ c)
  rw [← hop]
  exact WaterLevels.event_due (fun u => u.waitDue c) (fun u => (u.waitExpired c).finish) hh (waitDue_of_claim hk hr he)

/-- The exchange timer ends a flowing exchange. -/
theorem crossExchangeExpiry_takesPlace {s : State} {dt x : Nat} (hh : s.isHeld = false)
    (hx : s.cross.exchangeTimer = some x) (he : x ≤ s.now + dt) (hs : s.cross.stage = .flowing) :
    TakesPlace s dt State.endExchange { s.frame with now := s.now + dt } (exec (.crossExchangeExpiry dt) s) := by
  refine takesPlace_skeleton ?_ (endExchange_skeleton _)
  exact WaterLevels.event_due State.exchangeDue (fun u => u.endExchange.finish) hh (by simp [State.exchangeDue, hx, hs, he])

/-! ### What an entry to a phase keeps of the exchange -/

/-- What the lockage record holds of an exchange (R80), with the serial that names it. -/
structure CrossPart where
  serial : Nat
  start : Option (PerChamber Int)
  finish : Option (PerChamber Int)
  used : Bool

/-- That part of a record. -/
def crossPart (l : LockageRecord) : CrossPart := ⟨l.serial, l.crossStart, l.crossEnd, l.crossUsed⟩

/-- A sequencer as the arbiter sees it: its phase, and what its record holds of the exchange. -/
structure CrossView where
  phase : Phase
  record : Option CrossPart

/-- That view of a sequencer. -/
def crossView (q : Sequencer) : CrossView := ⟨q.phase, q.lockage.map crossPart⟩

/-- Two states with one arbiter, whose sequencers look the same to it. -/
def SameCross (s t : State) : Prop := t.cross = s.cross ∧ ∀ c, crossView (t.seq c) = crossView (s.seq c)

theorem SameCross.refl (s : State) : SameCross s s := ⟨rfl, fun _ => rfl⟩

theorem SameCross.trans {s t u : State} (h : SameCross s t) (k : SameCross t u) : SameCross s u :=
  ⟨k.1.trans h.1, fun c => (k.2 c).trans (h.2 c)⟩

theorem modSeq_seq_self (s : State) (c : Chamber) (g : Sequencer → Sequencer) : (s.modSeq c g).seq c = g (s.seq c) :=
  PerChamber.get_set_self _ _ _

theorem modSeq_seq_ne (s : State) {c x : Chamber} (g : Sequencer → Sequencer) (h : x ≠ c) : (s.modSeq c g).seq x = s.seq x :=
  PerChamber.get_set_ne _ _ h

theorem modSeq_sameCross (s : State) (c : Chamber) {g : Sequencer → Sequencer} (h : ∀ q, crossView (g q) = crossView q) :
    SameCross s (s.modSeq c g) := by
  refine ⟨rfl, fun x => ?_⟩
  by_cases hx : x = c
  · rw [hx, modSeq_seq_self, h]
  · rw [modSeq_seq_ne s g hx]

theorem crossPart_markLevel (l : LockageRecord) (v : Option Int) : crossPart (l.markLevel v) = crossPart l := by
  unfold LockageRecord.markLevel
  split_ifs <;> rfl

theorem markLevel_sameCross (s : State) (c : Chamber) (v : Option Int) :
    SameCross s (s.modLockage c fun l => l.markLevel v) := by
  refine modSeq_sameCross s c fun q => ?_
  simp [crossView, Function.comp_def, crossPart_markLevel]

theorem levelLostCheck_sameCross (s : State) (c : Chamber) : SameCross s (s.levelLostCheck c) := by
  unfold State.levelLostCheck
  split_ifs
  · exact modSeq_sameCross s c (g := fun q => { q with levelLostRaised := true }) fun _ => rfl
  · exact .refl s

theorem levelSettings_sameCross (s : State) (c : Chamber) (e : End) : SameCross s (s.levelSettings c e) :=
  modSeq_sameCross s c fun _ => rfl

theorem entrySettings_sameCross (s : State) (c : Chamber) (p : Phase) : SameCross s (s.entrySettings c p) := by
  unfold State.entrySettings
  split
  · exact .refl s
  · split
    · exact modSeq_sameCross s c fun _ => rfl
    · exact (levelSettings_sameCross s c _).trans (levelLostCheck_sameCross _ c)
    · dsimp only
      split_ifs
      · exact (levelSettings_sameCross s c _).trans (markLevel_sameCross _ c _)
      · exact (levelSettings_sameCross s c _).trans (levelLostCheck_sameCross _ c)
    · exact .refl s

theorem foldl_sameCross {α : Type} {g : State → α → State} (h : ∀ s x, SameCross s (g s x)) (l : List α) (s : State) :
    SameCross s (l.foldl g s) := by
  induction l generalizing s with
  | nil => exact .refl s
  | cons x l ih => exact (h s x).trans (ih _)

theorem standingCheck_sameCross (s : State) (c : Chamber) : SameCross s (s.standingCheck c) := by
  refine foldl_sameCross (fun s d => ?_) _ s
  unfold State.raiseStanding
  split
  · exact ⟨rfl, fun _ => rfl⟩
  · exact .refl s

/-! ### Releasing a chamber (R80, R81) -/

/-- A sequencer after its release: in LEVELLING when it was in CROSSING. -/
def CrossView.released (v : CrossView) : CrossView := { v with phase := if v.phase = .crossing then .levelling else v.phase }

theorem enterPlain_cross (s : State) (c : Chamber) (p : Phase) : (s.enterPlain c p).cross = s.cross :=
  ((entrySettings_sameCross (s.changePhase c p) c p).trans (standingCheck_sameCross _ c)).1

theorem enterPlain_view_self (s : State) (c : Chamber) (p : Phase) :
    crossView ((s.enterPlain c p).seq c) = { crossView (s.seq c) with phase := p } := by
  unfold State.enterPlain
  rw [((entrySettings_sameCross (s.changePhase c p) c p).trans (standingCheck_sameCross _ c)).2 c]
  exact congrArg crossView (PerChamber.get_set_self s.seqs c _)

theorem enterPlain_view_ne (s : State) {c x : Chamber} (p : Phase) (h : x ≠ c) :
    crossView ((s.enterPlain c p).seq x) = crossView (s.seq x) := by
  unfold State.enterPlain
  rw [((entrySettings_sameCross (s.changePhase c p) c p).trans (standingCheck_sameCross _ c)).2 x]
  exact congrArg crossView (PerChamber.get_set_ne s.seqs _ h)

theorem release_of_crossing {s : State} {c : Chamber} (h : s.phase c = .crossing) :
    s.release c = s.enterPlain c .levelling := by
  rw [State.release, if_pos h, State.enterPhase, if_neg (by decide)]

@[simp] theorem release_cross (s : State) (c : Chamber) : (s.release c).cross = s.cross := by
  by_cases h : s.phase c = .crossing
  · rw [release_of_crossing h, enterPlain_cross]
  · rw [State.release, if_neg h]

theorem release_view_self (s : State) (c : Chamber) :
    crossView ((s.release c).seq c) = (crossView (s.seq c)).released := by
  by_cases h : s.phase c = .crossing
  · have hv : (crossView (s.seq c)).phase = .crossing := h
    rw [release_of_crossing h, enterPlain_view_self, CrossView.released, if_pos hv]
  · have hv : (crossView (s.seq c)).phase ≠ .crossing := h
    rw [State.release, if_neg h, CrossView.released, if_neg hv]

theorem release_view_ne (s : State) {c x : Chamber} (h : x ≠ c) :
    crossView ((s.release c).seq x) = crossView (s.seq x) := by
  by_cases hc : s.phase c = .crossing
  · rw [release_of_crossing hc, enterPlain_view_ne s _ h]
  · rw [State.release, if_neg hc]

/-- Both chambers released: the arbiter stays, and each sequencer is released. -/
theorem releaseAll_cross (s : State) : (Chamber.all.foldl State.release s).cross = s.cross := by
  simp [Chamber.all]

theorem releaseAll_view (s : State) (c : Chamber) :
    crossView ((Chamber.all.foldl State.release s).seq c) = (crossView (s.seq c)).released := by
  show crossView (((s.release .A).release .B).seq c) = _
  cases c with
  | A => rw [release_view_ne _ (by decide), release_view_self]
  | B => rw [release_view_self, release_view_ne _ (by decide)]

theorem dropClaim_claim (s : State) (c : Chamber) :
    (s.dropClaim c).cross.claims.get c = none ∧
      (s.dropClaim c).cross.claims.get c.other = s.cross.claims.get c.other := by
  have hne : c.other ≠ c := by cases c <;> decide
  simp [State.dropClaim, hne]

theorem dropClaim_phase (s : State) (c : Chamber) :
    (s.dropClaim c).phase c = if s.phase c = .crossing then .levelling else s.phase c :=
  congrArg CrossView.phase (release_view_self (s.setClaim c none) c)

/-! ### The end of an exchange (R80) -/

/-- The records of both chambers with the outcome of the exchange written. -/
theorem writeOutcome_eq (s : State) (g : Grant) (marks : Option (PerChamber Int)) :
    Chamber.all.foldl
        (fun s c => s.modLockage c fun l => l.crossOutcome s.cross.valveAccepted (g.serials.get c) marks) s =
      { s with
        seqs := .of fun c =>
          { s.seq c with
            lockage := (s.seq c).lockage.map fun l => l.crossOutcome s.cross.valveAccepted (g.serials.get c) marks } } := rfl

theorem exchangeOver_cross {s : State} {g : Grant} (h : s.cross.grant = some g) :
    s.exchangeOver.cross = { s.cross with grant := none, stage := .none, stopCounter := 0, claims := .both none } := by
  rw [State.exchangeOver, h]
  exact releaseAll_cross _

theorem exchangeOver_view {s : State} {g : Grant} (h : s.cross.grant = some g) (c : Chamber) :
    crossView (s.exchangeOver.seq c) =
      CrossView.released
        ⟨s.phase c, (s.seq c).lockage.map fun l =>
          crossPart (l.crossOutcome s.cross.valveAccepted (g.serials.get c) s.crossMarks)⟩ := by
  rw [State.exchangeOver, h]
  dsimp only
  rw [releaseAll_view, writeOutcome_eq]
  simp [crossView, State.seq, State.phase, Function.comp_def]

/-- The record of a chamber after the exchange holds its outcome. -/
theorem exchangeOver_record {s : State} {g : Grant} {c : Chamber} {l : LockageRecord} (h : s.cross.grant = some g)
    (hl : (s.seq c).lockage = some l) :
    ∃ k, (s.exchangeOver.seq c).lockage = some k ∧
      crossPart k = crossPart (l.crossOutcome s.cross.valveAccepted (g.serials.get c) s.crossMarks) := by
  have hview := congrArg CrossView.record (exchangeOver_view h c)
  rw [hl] at hview
  exact Option.map_eq_some_iff.mp hview

/-- A record of another serial is not written. -/
theorem crossOutcome_of_ne {l : LockageRecord} {serial : Nat} (accepted : Bool) (marks : Option (PerChamber Int))
    (h : l.serial ≠ serial) : l.crossOutcome accepted serial marks = l := if_pos h

/-- The record of the grant's serial takes the end marks when water may have passed, and loses its start marks otherwise. -/
theorem crossOutcome_of_eq {l : LockageRecord} {serial : Nat} (accepted : Bool) (marks : Option (PerChamber Int))
    (h : l.serial = serial) :
    l.crossOutcome accepted serial marks =
      if accepted then { l with crossEnd := marks, crossUsed := true } else { l with crossStart := none, crossUsed := false } :=
  if_neg (not_not_intro h)

theorem crossOutcome_serial (l : LockageRecord) (accepted : Bool) (serial : Nat) (marks : Option (PerChamber Int)) :
    (l.crossOutcome accepted serial marks).serial = l.serial := by
  unfold LockageRecord.crossOutcome
  split_ifs <;> rfl

theorem crossPart_eq_iff (k l : LockageRecord) :
    crossPart k = crossPart l ↔
      k.serial = l.serial ∧ k.crossStart = l.crossStart ∧ k.crossEnd = l.crossEnd ∧ k.crossUsed = l.crossUsed := by
  simp [crossPart]

/-- Settles O56: the expiries by what the arbiter makes of them, the end of an exchange by the view the arbiter has of the
sequencers. -/
theorem exchangeEnds : Obligations.ExchangeEnds := by
  refine ⟨fun dt s hh => ⟨fun c k hk hr he => ⟨fun h => ?_, fun hs hg => ?_⟩, fun x hx he hs => ?_⟩,
    fun s => ⟨fun c => ?_, ?_, watchHead_flowing, fun g hg => ?_⟩⟩
  · exact crossWaitExpiry_takesPlace hh hk hr he (waitExpired_unmatched h)
  · exact crossWaitExpiry_takesPlace hh hk hr he (waitExpired_opening hk hs hg)
  · exact crossExchangeExpiry_takesPlace hh hx he hs
  · obtain ⟨hown, hother⟩ := dropClaim_claim s c
    exact ⟨hown, hother, dropClaim_phase s c⟩
  · refine ⟨?_, ?_, ?_, fun c => ?_, fun c k => endExchange_claim_stopped, fun hf hr hc => ?_, fun hf hq => ?_,
      endExchange_closesNext⟩
    · rw [endExchange_cross]
    · rw [endExchange_cross]
    · rw [endExchange_cross]
    · exact ⟨by rw [endExchange_seq], by rw [State.phase, endExchange_seq]; rfl⟩
    · exact endExchange_closes hf (.inl ⟨hr, hc⟩)
    · exact endExchange_closes hf (.inr hq)
  · have hcross := exchangeOver_cross hg
    refine ⟨by rw [hcross], by rw [hcross], by rw [hcross], fun c => ⟨?_, ?_, fun l hl => ?_⟩⟩
    · rw [hcross]
      exact PerChamber.get_both _ c
    · exact congrArg CrossView.phase (exchangeOver_view hg c)
    · obtain ⟨k, hk, hpart⟩ := exchangeOver_record hg hl
      obtain ⟨hserial, hstart, hend, hused⟩ := (crossPart_eq_iff _ _).mp hpart
      refine ⟨k, hk, hserial.trans (crossOutcome_serial ..), fun heq => ?_, fun hne => ?_⟩
      · rw [crossOutcome_of_eq _ _ heq] at hstart hend hused
        cases hv : s.cross.valveAccepted with
        | true =>
          rw [hv] at hstart hend hused
          exact ⟨hstart, hend, hused⟩
        | false =>
          rw [hv] at hstart hused
          exact ⟨hstart, hused⟩
      · rw [crossOutcome_of_ne _ _ hne] at hstart hend hused
        exact ⟨hstart, hend, hused⟩

end Sys2Proof.Machine.CrossFilling

/-! ## The order of an approach queue (R114) -/

namespace Sys2Proof.Machine.ApproachQueues

/-! ### The keys of the order -/

/-- The keys of R114 as one value of a linear order: higher priority first, then the earlier arrival, then the lower handle. -/
def rank (s : State) (v : Vessel) : Natᵒᵈ ×ₗ Nat ×ₗ Nat ×ₗ Nat :=
  toLex (OrderDual.toDual (s.priority v.cls), toLex (v.arrival.day, toLex (v.arrival.second, v.handle)))

theorem comesBefore_iff_rank_lt (s : State) (v w : Vessel) : comesBefore s v w ↔ rank s v < rank s w := by
  simp only [comesBefore, rank, Prod.Lex.toLex_lt_toLex (α := Natᵒᵈ), OrderDual.toDual_lt_toDual, OrderDual.toDual_inj]

theorem handle_eq_of_rank_eq {s : State} {v w : Vessel} (h : rank s v = rank s w) : v.handle = w.handle :=
  congrArg (fun r => (ofLex (ofLex (ofLex r).2).2).2) h

theorem comesBefore_trans {s : State} {u v w : Vessel} (h : comesBefore s u v) (k : comesBefore s v w) :
    comesBefore s u w := by
  rw [comesBefore_iff_rank_lt] at *
  exact h.trans k

/-- Of two vessels with different handles one comes before the other. -/
theorem comesBefore_of_not {s : State} {v w : Vessel} (hne : v.handle ≠ w.handle) (h : ¬comesBefore s v w) :
    comesBefore s w v := by
  rw [comesBefore_iff_rank_lt] at *
  exact lt_of_le_of_ne (not_lt.mp h) fun heq => hne (handle_eq_of_rank_eq heq).symm

/-- The model's test of the keys is the order of R114. -/
theorem ahead_iff_comesBefore (s : State) (v w : Vessel) : s.ahead v w = true ↔ comesBefore s v w := by
  simp only [State.ahead, LockTime.before, comesBefore, Prod.Lex.toLex_lt_toLex, Bool.or_eq_true, Bool.and_eq_true,
    Bool.not_eq_true', Bool.or_eq_false_iff, Bool.and_eq_false_iff, decide_eq_true_eq, decide_eq_false_iff_not]
  omega

/-! ### Inserting a vessel -/

/-- The vessel stands where its keys put it: behind every vessel that it does not precede, before the first that it does. -/
theorem placedIn_placeIn (s : State) (v : Vessel) (q : List Nat) : placedIn s v q (s.placeIn v q) := by
  induction q with
  | nil => exact ⟨[], [], rfl, rfl, by simp, by simp⟩
  | cons h q ih =>
    obtain ⟨before, after, hq, hnew, hbefore, hafter⟩ := ih
    cases hw : s.vessel? h with
    | none =>
      refine ⟨h :: before, after, by rw [hq]; rfl, by simp only [State.placeIn, hw, hnew, List.cons_append], ?_, hafter⟩
      exact List.forall_mem_cons.mpr ⟨by simp [hw], hbefore⟩
    | some w =>
      by_cases hahead : s.ahead v w = true
      · refine ⟨[], h :: q, rfl, by simp only [State.placeIn, hw, hahead, if_true]; rfl, by simp, fun k x hk hx => ?_⟩
        obtain rfl : h = k := Option.some.inj hk
        obtain rfl : w = x := Option.some.inj (hw.symm.trans hx)
        exact hahead
      · refine ⟨h :: before, after, by rw [hq]; rfl, ?_, ?_, hafter⟩
        · simp only [State.placeIn, hw, hahead, hnew, List.cons_append]
          rfl
        · refine List.forall_mem_cons.mpr ⟨fun x hx => ?_, hbefore⟩
          obtain rfl : w = x := Option.some.inj (hw.symm.trans hx)
          simpa using hahead

/-- A vessel's place depends on the table only through the vessels of the queue. -/
theorem placeIn_congr {s u : State} {v : Vessel} {q : List Nat} (hcfg : u.cfg = s.cfg)
    (hq : ∀ h ∈ q, u.vessel? h = s.vessel? h) : u.placeIn v q = s.placeIn v q := by
  have hpriority : u.priority = s.priority := by
    funext k
    cases k <;> simp only [State.priority, hcfg]
  have hahead : u.ahead = s.ahead := by
    funext x y
    rw [State.ahead, hpriority, State.ahead]
  induction q with
  | nil => rfl
  | cons h q ih =>
    obtain ⟨hh, hq⟩ := List.forall_mem_cons.mp hq
    simp only [State.placeIn, hh, ih hq, hahead]

/-- Settles O21: what stands before the inserted vessel comes before it, and what stands behind comes behind the first one there. -/
theorem insertionKeepsQueueOrder : Obligations.InsertionKeepsQueueOrder := by
  intro s v q hv hmem hknown hordered
  obtain ⟨before, after, rfl, hnew, hbefore, hafter⟩ := placedIn_placeIn s v q
  rw [hnew]
  obtain ⟨hordBefore, hordAfter, hacross⟩ := List.pairwise_append.mp hordered
  have ahead_of_v : ∀ h ∈ before, ∀ w, s.vessel? h = some w → comesBefore s w v := by
    intro h hh w hw
    have hne : v.handle ≠ w.handle := fun heq =>
      hmem (List.mem_append_left _ (by rwa [heq, WaterLevels.vessel_handle hw]))
    refine comesBefore_of_not hne fun hlt => ?_
    have hahead := (ahead_iff_comesBefore s v w).mpr hlt
    simp [hbefore h hh w hw] at hahead
  have behind_v : ∀ h ∈ after, ∀ w, s.vessel? h = some w → comesBefore s v w := by
    cases after with
    | nil => simp
    | cons k after =>
      obtain ⟨x, hx⟩ := Option.isSome_iff_exists.mp (hknown k (by simp))
      have hvx := (ahead_iff_comesBefore s v x).mp (hafter k x rfl hx)
      refine List.forall_mem_cons.mpr ⟨fun w hw => ?_, fun h hh w hw => ?_⟩
      · obtain rfl : x = w := Option.some.inj (hx.symm.trans hw)
        exact hvx
      · exact comesBefore_trans hvx ((List.pairwise_cons.mp hordAfter).1 h hh x w hx hw)
  refine ⟨List.pairwise_append.mpr ⟨hordBefore, List.pairwise_cons.mpr ⟨?_, hordAfter⟩, ?_⟩, List.perm_middle⟩
  · intro h hh x w hx hw
    obtain rfl : v = x := Option.some.inj (hv.symm.trans hx)
    exact behind_v h hh w hw
  · refine fun h hh => List.forall_mem_cons.mpr ⟨fun w x hw hx => ?_, hacross h hh⟩
    obtain rfl : v = x := Option.some.inj (hv.symm.trans hx)
    exact ahead_of_v h hh w hw

end Sys2Proof.Machine.ApproachQueues
/-! ## Withdrawing a vessel (R112, R113) -/

namespace Sys2Proof.Machine.ApproachQueues

/-! ### Requests that no other block reacts to -/

/-- A request that is accepted with a state to which no other block reacts, and in which no notice has been produced, leaves that
state and brings its reply. -/
theorem quiet_answers {s u : State} {dt : Nat} {f : Frame} {code : Byte} {d : ReplyData} {body : State → Answer}
    (hr : Ready s f) (hb : body (s.taken dt f) = u.acceptQuiet d) (hl : u.links = (s.taken dt f).links)
    (he : u.event = (s.taken dt f).event) :
    ∃ t, s.request dt f code body = .next t ∧ t = { u with links := t.links, event := .blank } ∧
      LinksReplied s t dt f code .ok d := by
  refine ⟨_, request_taken hr dt code body, ?_, ?_⟩
  · rw [hb]
    show (u.replied f code .ok d).finishQuiet = _
    rw [finishQuiet_eq]
    rfl
  · rw [hb]
    exact quiet_linksReplied code .ok d hl (congrArg (·.produced) he) (congrArg (·.deferred) he)

theorem operates_of_ne_toll {f : Frame} (hf : f.link ≠ .toll) : f.link.operates = true := by
  simpa [Link.operates] using hf

/-- A handle whose vessel is there resolves with no expected mark or its own (R108). -/
theorem resolve_of_vessel {s : State} {h : Nat} {m : Option Mark} {v : Vessel} (hv : s.vessel? h = some v)
    (hm : m = none ∨ m = some v.mark) : s.resolve h m = some v := by
  simp only [State.resolve, hv, hm, if_true]

/-! ### The lockage record of a chamber -/

/-- The state with the chamber's lockage record written. -/
def withRecord (s : State) (c : Chamber) (l : LockageRecord) : State :=
  { s with seqs := s.seqs.set c { s.seq c with lockage := some l } }

@[simp] theorem withRecord_lockage (s : State) (c : Chamber) (l : LockageRecord) :
    ((withRecord s c l).seq c).lockage = some l :=
  congrArg Sequencer.lockage (PerChamber.get_set_self s.seqs c _)

theorem withRecord_withRecord (s : State) (c : Chamber) (k l : LockageRecord) :
    withRecord (withRecord s c k) c l = withRecord s c l := by
  cases c <;> rfl

theorem withRecord_self {s : State} {c : Chamber} {l : LockageRecord} (hl : (s.seq c).lockage = some l) :
    withRecord s c l = s := by
  rw [withRecord, ← hl]
  exact congrArg (fun q => { s with seqs := q }) (PerChamber.set_get s.seqs c)

theorem modLockage_of_lockage {s : State} {c : Chamber} {l : LockageRecord} (g : LockageRecord → LockageRecord)
    (hl : (s.seq c).lockage = some l) : s.modLockage c g = withRecord s c (g l) := by
  have hl' : (s.seqs.get c).lockage = some l := hl
  simp only [State.modLockage, State.modSeq, withRecord, State.seq, hl', Option.map_some]

/-- A record gives back the reservation that it holds (R173). -/
theorem releaseReservation_of_lockage {s : State} {c : Chamber} {l : LockageRecord} (hl : (s.seq c).lockage = some l) :
    s.releaseReservation c =
      { withRecord s c { l with reservation := .none } with
        acct :=
          { s.acct with
            reservations := if l.reservation = .none then s.acct.reservations else s.acct.reservations - 1 } } := by
  by_cases hnone : l.reservation = .none
  · have hsame : withRecord s c { l with reservation := .none } = s := by
      rw [← hnone]
      exact withRecord_self hl
    simp only [State.releaseReservation, hl, hnone, if_true, hsame]
  · have hl' : ((s.modAcct AccountingUnit.release).seq c).lockage = some l := hl
    simp only [State.releaseReservation, hl, hnone, if_false]
    exact modLockage_of_lockage _ hl'

/-- A plan with no entry gives its reservation back; any other keeps it (R113, R131). -/
theorem releaseIfEmpty_of_lockage {s : State} {c : Chamber} {l : LockageRecord} (hl : (s.seq c).lockage = some l) :
    s.releaseIfEmpty c =
      { withRecord s c
          { l with reservation := if l.plan = [] ∧ l.reservation ≠ .none then .none else l.reservation } with
        acct :=
          { s.acct with
            reservations :=
              if l.plan = [] ∧ l.reservation ≠ .none then s.acct.reservations - 1 else s.acct.reservations } } := by
  by_cases hempty : l.plan = []
  · simp only [State.releaseIfEmpty, hl, hempty, if_true, releaseReservation_of_lockage hl]
    by_cases hnone : l.reservation = .none
    · simp [hnone]
    · simp [hnone]
  · simp only [State.releaseIfEmpty, hl, hempty, false_and, if_false, withRecord_self hl]

/-! ### Withdrawal (R112, R113) -/

/-- A vessel leaves a plan, and a plan left empty gives its reservation back (R113). -/
theorem leavePlan_releaseIfEmpty {s : State} {c : Chamber} {l : LockageRecord} (v : Vessel)
    (hl : (s.seq c).lockage = some l) :
    let plan := l.plan.filter fun e => e.handle ≠ v.handle
    let givesBack := plan = [] ∧ l.reservation ≠ .none
    (s.leavePlan c v).releaseIfEmpty c =
      { withRecord s c
          { l with
            plan
            usedLength := l.usedLength - (v.length + s.cfg.vesselSpacing)
            reservation := if givesBack then .none else l.reservation } with
        acct := { s.acct with reservations := if givesBack then s.acct.reservations - 1 else s.acct.reservations } } := by
  intro plan givesBack
  rw [State.leavePlan, modLockage_of_lockage _ hl, releaseIfEmpty_of_lockage (withRecord_lockage _ _ _),
    withRecord_withRecord]
  rfl

theorem withdraw_waiting {s : State} {v : Vessel} (hv : v.state = .waiting) : s.withdraw v = s.deleteVessel v.handle := by
  rw [State.withdraw, hv]

theorem withdraw_saved {s : State} {v : Vessel} {c : Chamber} (hv : v.state = .saved c) :
    s.withdraw v = (s.unsave c v.handle).deleteVessel v.handle := by
  rw [State.withdraw, hv]

theorem withdraw_assigned {s : State} {v : Vessel} {c : Chamber} (hv : v.state = .assigned c) :
    s.withdraw v = ((s.leavePlan c v).releaseIfEmpty c).deleteVessel v.handle := by
  rw [State.withdraw, hv]

/-- A withdrawal that may take place is carried out, and nothing else reacts to it. -/
theorem withdrawVessel_answers {dt : Nat} {f : Frame} {h : Nat} {m : Option Mark} {v : Vessel} {s u : State} (hr : Ready s f)
    (hlen : f.lengthMatches = true) (hf : f.link ≠ .toll) (hv : s.vessel? h = some v) (hm : m = none ∨ m = some v.mark)
    (hw : s.withdrawable v.state = true) (hu : (s.taken dt f).withdraw v = u) (hl : u.links = (s.taken dt f).links)
    (he : u.event = (s.taken dt f).event) :
    ∃ t, exec (.withdrawVessel dt f h m) s = .next t ∧ t = { u with links := t.links, event := .blank } ∧
      LinksReplied s t dt f 22 .ok .none := by
  refine quiet_answers (body := withdrawVesselBody f h m) hr ?_ hl he
  have hres : (s.taken dt f).resolve h m = some v := resolve_of_vessel hv hm
  have hw' : (s.taken dt f).withdrawable v.state = true := by
    cases hstate : v.state <;> rw [hstate] at hw <;> exact hw
  rw [withdrawVesselBody, operates_of_ne_toll hf, WaterLevels.check_of_true, hres]
  dsimp only
  rw [hw', hlen, WaterLevels.check_of_true, WaterLevels.check_of_true, hu]

/-- Settles O24: a withdrawal by the place from which the vessel goes. -/
theorem withdrawVesselDeletesVessel : Obligations.WithdrawVesselDeletesVessel := by
  intro dt f h m v s hr hlen hf hv hm vessels queues
  obtain rfl : v.handle = h := WaterLevels.vessel_handle hv
  refine ⟨fun hstate => ?_, fun c hstate => ?_, fun c l hstate hwindow hl => ?_⟩
  · exact withdrawVessel_answers hr hlen hf hv hm (by rw [hstate]; rfl) (withdraw_waiting hstate) rfl rfl
  · exact withdrawVessel_answers hr hlen hf hv hm (by rw [hstate]; rfl) (withdraw_saved hstate) rfl rfl
  · have hl' : ((s.taken dt f).seq c).lockage = some l := hl
    have hleaves := (withdraw_assigned hstate).trans
      (congrArg (fun u : State => u.deleteVessel v.handle) (leavePlan_releaseIfEmpty v hl'))
    exact withdrawVessel_answers hr hlen hf hv hm (by rw [hstate]; exact hwindow) hleaves rfl rfl

end Sys2Proof.Machine.ApproachQueues
/-! ## Emergency handling (R132 to R135) -/

namespace Sys2Proof.Machine.ApproachQueues

/-! ### The tests of taking (R125, R126) -/

theorem geometryFault_eq (s : State) (c : Chamber) (used : Nat) (v : Vessel) :
    s.geometryFault c used v =
      if (s.cfg.chambers.get c).clearWidth < v.beam + 2 * s.cfg.sideClearance then some .beam
      else if (s.cfg.chambers.get c).usableLength < used + v.length + s.cfg.vesselSpacing then some .length
      else s.sillTest c v.draught := rfl

theorem geometryFault_empty_iff (s : State) (c : Chamber) (v : Vessel) :
    s.geometryFault c 0 v = none ↔ fitsEmpty s c v := by
  rw [geometryFault_eq, fitsEmpty]
  split_ifs with hbeam hlength
  · simp [Nat.not_le.mpr hbeam]
  · rw [Nat.zero_add] at hlength
    simp [Nat.not_le.mpr hlength]
  · rw [Nat.zero_add] at hlength
    simp [Nat.not_lt.mp hbeam, Nat.not_lt.mp hlength]

theorem not_admissible_iff (s : State) (c : Chamber) (k : VesselClass) :
    (!s.admissible c k) = true ↔ s.priority k < s.traffic.admission.get c ∧ k ≠ .emergency := by
  simp only [State.admissible, Bool.not_eq_true', Bool.or_eq_false_iff, decide_eq_false_iff_not, not_le, ne_eq]

/-- The classes of a plan, as the vessel table stands. -/
theorem contains_planClasses (s : State) (l : LockageRecord) (k : VesselClass) :
    ((s.planVessels l).map (·.cls)).contains k = carriesClass s l k := by
  refine Bool.eq_iff_iff.mpr ?_
  simp only [State.planVessels, carriesClass, List.map_filterMap, List.contains_iff_mem, List.mem_filterMap,
    List.any_eq_true, decide_eq_true_eq]

theorem hazard_iff (s : State) (l : LockageRecord) (k : VesselClass) :
    hazard k ((s.planVessels l).map (·.cls)) = true ↔
      (k = .tanker ∧ carriesClass s l .passenger = true) ∨ (k = .passenger ∧ carriesClass s l .tanker = true) := by
  simp only [hazard, contains_planClasses, Bool.or_eq_true, Bool.and_eq_true, decide_eq_true_eq]

/-- Tests 4 to 6 in their order (R125). -/
theorem companyFault_eq (s : State) (c : Chamber) (l : LockageRecord) (v : Vessel) :
    s.companyFault c l v =
      if s.priority v.cls < s.traffic.admission.get c ∧ v.cls ≠ .emergency then some .admission
      else if (v.cls = .tanker ∧ carriesClass s l .passenger = true) ∨ (v.cls = .passenger ∧ carriesClass s l .tanker = true)
      then some .hazard
      else if 10 ≤ l.plan.length then some .count
      else none :=
  if_congr (not_admissible_iff s c v.cls) rfl (if_congr (hazard_iff s l v.cls) rfl rfl)

/-- Tests 1 to 6 in their order (R125). -/
theorem testFault_eq_firstFailed (s : State) (c : Chamber) (l : LockageRecord) (v : Vessel) :
    s.testFault c l v = firstFailed s c l v := by
  rw [State.testFault, companyFault_eq, geometryFault_eq]
  unfold firstFailed
  dsimp only
  by_cases hbeam : (s.cfg.chambers.get c).clearWidth < v.beam + 2 * s.cfg.sideClearance
  · rw [if_pos hbeam, if_pos hbeam]
    rfl
  · rw [if_neg hbeam, if_neg hbeam]
    by_cases hlength : (s.cfg.chambers.get c).usableLength < l.usedLength + v.length + s.cfg.vesselSpacing
    · rw [if_pos hlength, if_pos hlength]
      rfl
    · rw [if_neg hlength, if_neg hlength]
      cases s.sillTest c v.draught <;> rfl

/-- The journal has room for a reservation (R172). -/
theorem le_free_iff {n : Nat} (u : AccountingUnit) (hn : 1 ≤ n) : n ≤ u.free ↔ u.reservations + u.journal.length + n ≤ 64 := by
  simp only [AccountingUnit.free, journalSize]
  omega

theorem journalLowCheck_eq (s : State) : s.journalLowCheck = { s with event := s.journalLowCheck.event } := by
  unfold State.journalLowCheck
  split_ifs <;> rfl

/-- The state with a reservation for the chamber's plan: the one that its record holds, or a new one (R126, R172). -/
def reservedFor (s : State) (c : Chamber) (l : LockageRecord) (k : VesselClass) : State :=
  { withRecord s c
      { l with
        reservation :=
          if l.reservation ≠ .none then l.reservation else if k = .emergency then .emergency else .normal } with
    acct :=
      { s.acct with reservations := if l.reservation ≠ .none then s.acct.reservations else s.acct.reservations + 1 } }

theorem reserve_eq (s : State) (emergency : Bool) :
    s.reserve? emergency =
      if s.acct.reservations + s.acct.journal.length + (if emergency then 1 else 3) ≤ 64 then
        some (s.modAcct fun u => { u with reservations := u.reservations + 1 }).journalLowCheck
      else none :=
  if_congr (le_free_iff s.acct (by split <;> decide)) rfl rfl

theorem hasSpace_iff (s : State) (l : LockageRecord) (v : Vessel) :
    hasSpace s l v = true ↔
      l.reservation ≠ .none ∨
        s.acct.reservations + s.acct.journal.length + (if decide (v.cls = .emergency) then 1 else 3) ≤ 64 := by
  simp only [hasSpace, Bool.or_eq_true, decide_eq_true_eq]

/-- Where there is space test 7 passes, and beyond the reservation it brings at most the notice of a low journal (R125, R176). -/
theorem recordSpace_of_hasSpace {s : State} {c : Chamber} {l : LockageRecord} {v : Vessel} (hl : (s.seq c).lockage = some l)
    (hspace : hasSpace s l v = true) :
    ∃ t, s.recordSpace? c l v.cls = some t ∧ { t with event := s.event } = reservedFor s c l v.cls := by
  by_cases hheld : l.reservation ≠ .none
  · have hsame : withRecord s c { l with reservation := l.reservation } = s := withRecord_self hl
    exact ⟨s, if_pos hheld, by simp only [reservedFor, if_pos hheld, hsame]⟩
  · have hroom := ((hasSpace_iff s l v).mp hspace).resolve_left hheld
    let granted := s.modAcct fun u => { u with reservations := u.reservations + 1 }
    have hl' : (granted.journalLowCheck.seq c).lockage = some l := by
      rw [journalLowCheck_eq]
      exact hl
    have ht : s.recordSpace? c l v.cls = some
        (withRecord granted.journalLowCheck c { l with reservation := if v.cls = .emergency then .emergency else .normal }) := by
      rw [State.recordSpace?, if_neg hheld, reserve_eq, if_pos hroom]
      exact congrArg some (modLockage_of_lockage _ hl')
    refine ⟨_, ht, ?_⟩
    rw [journalLowCheck_eq]
    simp only [reservedFor, if_neg hheld]
    rfl

theorem hasSpace_of_recordSpace {s t : State} {c : Chamber} {l : LockageRecord} {v : Vessel}
    (h : s.recordSpace? c l v.cls = some t) : hasSpace s l v = true := by
  refine (hasSpace_iff s l v).mpr (or_iff_not_imp_left.mpr fun hheld => ?_)
  rw [State.recordSpace?, if_neg hheld, reserve_eq] at h
  by_contra hroom
  rw [if_neg hroom] at h
  cases h

theorem takeVessel_of_lockage {s : State} {c : Chamber} {l : LockageRecord} (v : Vessel) (hl : (s.seq c).lockage = some l) :
    s.takeVessel c v =
      withRecord ((s.dequeue v.handle).modVessel v.handle fun v => { v with state := .assigned c, deferral := none }) c
        { l with
          plan := l.plan ++ [⟨v.handle, false⟩]
          usedLength := l.usedLength + s.roomOf v
          emergency := l.emergency || decide (v.cls = .emergency) } :=
  modLockage_of_lockage
    (s := (s.dequeue v.handle).modVessel v.handle fun v => { v with state := .assigned c, deferral := none }) _ hl

/-- Taking a vessel for which the plan has its reservation (R127). -/
theorem takeVessel_reservedFor (s : State) (c : Chamber) (l : LockageRecord) (v : Vessel) :
    (reservedFor s c l v.cls).takeVessel c v = takenInto s c v l := by
  have hl : ((reservedFor s c l v.cls).seq c).lockage = some _ := withRecord_lockage s c _
  rw [takeVessel_of_lockage v hl]
  cases c <;> rfl

/-- A vessel that passes the seven tests is taken (R125 to R127). -/
theorem tryTake_takes {s : State} {c : Chamber} {l : LockageRecord} {v : Vessel} (hl : (s.seq c).lockage = some l)
    (hpasses : firstFailed s c l v = none) (hspace : hasSpace s l v = true) :
    ∃ t, s.tryTake c v = .taken t ∧ { t with event := s.event } = takenInto s c v l := by
  obtain ⟨t, ht, hreserved⟩ := recordSpace_of_hasSpace hl hspace
  refine ⟨t.takeVessel c v, ?_, ?_⟩
  · simp only [State.tryTake, hl, testFault_eq_firstFailed, hpasses, ht]
  · rw [← takeVessel_reservedFor, ← hreserved]
    rfl

/-- A vessel that is taken has passed the seven tests. -/
theorem passes_of_tryTake {s t : State} {c : Chamber} {v : Vessel} (h : s.tryTake c v = .taken t) :
    ∃ l, (s.seq c).lockage = some l ∧ firstFailed s c l v = none ∧ hasSpace s l v = true := by
  unfold State.tryTake at h
  split at h
  · cases h
  · next l hl =>
    split at h
    · cases h
    · next hpasses =>
      split at h
      · cases h
      · next hspace => exact ⟨l, hl, testFault_eq_firstFailed s c l v ▸ hpasses, hasSpace_of_recordSpace hspace⟩

/-! ### Joining (R133) -/

theorem inPlanWindow_iff (p : Phase) :
    p.inPlanWindow = true ↔ p ∈ [Phase.forming, .turning, .preLevelling, .entryOpening, .entry] := by
  cases p <;> decide

theorem join_of_letsJoin {s : State} {c : Chamber} {v : Vessel} {l : LockageRecord} (h : letsJoin s c v l) :
    ∃ t, s.join? c v = some t ∧ { t with event := s.event } = takenInto s c v l := by
  obtain ⟨hphase, hl, hdirection, hpasses, hspace⟩ := h
  obtain ⟨t, ht, htaken⟩ := tryTake_takes hl hpasses hspace
  refine ⟨t, ?_, htaken⟩
  simp only [State.join?, (inPlanWindow_iff _).mpr hphase, State.direction?, hl, hdirection, ht, Option.map_some, decide_true,
    Bool.and_self, if_true]

theorem letsJoin_of_join {s t : State} {c : Chamber} {v : Vessel} (h : s.join? c v = some t) : ∃ l, letsJoin s c v l := by
  unfold State.join? at h
  split_ifs at h with hwindow
  simp only [Bool.and_eq_true, decide_eq_true_eq] at hwindow
  obtain ⟨hphase, hdirection⟩ := hwindow
  split at h
  · next ht =>
    obtain ⟨l, hl, hpasses, hspace⟩ := passes_of_tryTake ht
    rw [State.direction?, hl] at hdirection
    exact ⟨l, (inPlanWindow_iff _).mp hphase, hl, Option.some.inj hdirection, hpasses, hspace⟩
  · cases h

/-! ### Emergency start (R134) -/

theorem startsFor_iff (s : State) (c : Chamber) (v : Vessel) : s.startsFor c v = true ↔ chosenForStart s c v := by
  simp only [State.startsFor, chosenForStart, Bool.and_eq_true, decide_eq_true_eq, geometryFault_empty_iff,
    le_free_iff s.acct (le_refl 1), Option.isSome_iff_ne_none, and_assoc]

/-! ### Preemption (R135, R69) -/

theorem preemptable_iff (p : Phase) : preemptable p = true ↔ p ∈ [Phase.forming, .turning, .preLevelling, .entryOpening] := by
  cases p <;> decide

theorem eq_other_iff (d e : Direction) : d = e.other ↔ d ≠ e := by
  cases d <;> cases e <;> decide

/-- The journal has room once the record has given its reservation back (R135). -/
theorem freeWithout_iff (s : State) (l : LockageRecord) :
    1 ≤ s.freeWithout l ↔
      (if l.reservation = .none then s.acct.reservations else s.acct.reservations - 1) + s.acct.journal.length + 1 ≤ 64 := by
  unfold State.freeWithout
  split_ifs
  · exact le_free_iff s.acct (le_refl 1)
  · exact le_free_iff s.acct.release (le_refl 1)

theorem preemptsFor_iff {s : State} {c : Chamber} {v : Vessel} {l : LockageRecord} (hl : (s.seq c).lockage = some l) :
    s.preemptsFor c l v = true ↔ chosenForPreemption s c v l := by
  simp only [State.preemptsFor, chosenForPreemption, Bool.and_eq_true, Bool.not_eq_true', decide_eq_true_eq, hl,
    geometryFault_empty_iff, freeWithout_iff, preemptable_iff, eq_other_iff, contains_planClasses,
    Option.isSome_iff_ne_none, and_assoc, true_and]
  rfl

/-- The vessels of the handles become SAVED (R135). -/
theorem foldl_saveOne (c : Chamber) (hs : List Nat) (s : State) :
    hs.foldl (State.saveOne c) s =
      { s with
        traffic :=
          { s.traffic with
            vessels := s.traffic.vessels.map fun x => if x.handle ∈ hs then { x with state := .saved c } else x } } := by
  induction hs generalizing s with
  | nil => simp
  | cons h hs ih =>
    have hcompose (x : Vessel) :
        (let y := if x.handle = h then { x with state := .saved c } else x
          if y.handle ∈ hs then { y with state := .saved c } else y) =
          if x.handle ∈ h :: hs then { x with state := VesselState.saved c } else x := by
      by_cases hx : x.handle = h <;> by_cases hmem : x.handle ∈ hs <;> simp [hx, hmem]
    rw [List.foldl_cons, ih]
    simp only [State.saveOne, State.modVessel, State.modTraffic, List.map_map, Function.comp_def, hcompose]

/-- The push of a plan: with no vessel it saves nothing (R135, R138). -/
theorem pushPlan_eq (s : State) (c : Chamber) (l : LockageRecord) :
    let handles := l.plan.map (·.handle)
    s.pushPlan c l =
      { s with
        traffic :=
          { s.traffic with
            vessels := s.traffic.vessels.map fun x => if x.handle ∈ handles then { x with state := .saved c } else x
            planStacks :=
              if handles = [] then s.traffic.planStacks
              else s.traffic.planStacks.set c (⟨l.direction, l.startTime, handles⟩ :: s.traffic.planStacks.get c) } } := by
  intro handles
  by_cases hempty : handles = []
  · rw [State.pushPlan, if_pos hempty]
    simp [hempty]
  · rw [State.pushPlan, if_neg hempty, foldl_saveOne, if_neg hempty]
    rfl

/-- A STOP request of a device whose entry is a START (R69). -/
def stopIfQueued (s : State) (d : Device) : State := if (s.dev d).startQueued then s.stopRequest d else s

theorem stopQueued_eq (s : State) (c : Chamber) : s.stopQueued c = c.devices.foldl stopIfQueued s := rfl

/-- Such a request puts STOP in the place of the START, unless the chamber is barred (R7). -/
theorem stopIfQueued_eq (s : State) (d : Device) :
    stopIfQueued s d =
      if (s.dev d).startQueued = true ∧ s.isBarred d = false then
        s.setDev d { s.dev d with outstanding := some .stop, queued := some ⟨.stop, s.now⟩, nextStart := none }
      else s := by
  unfold stopIfQueued
  by_cases hqueued : (s.dev d).startQueued = true
  · have hstoppable : (s.dev d).stoppable = true := by simp [DeviceRecord.stoppable, hqueued]
    obtain ⟨he, hbarred⟩ | ⟨he, hbarred, -⟩ | ⟨-, -, hno⟩ := stopRequest_cases s d
    · simp [hbarred, he]
    · simp [hqueued, hbarred, he]
    · simp [hstoppable] at hno
  · simp [hqueued]

/-- The requests write nothing but device records. -/
theorem foldl_stopIfQueued_eq (ds : List Device) (s : State) :
    ds.foldl stopIfQueued s =
      { s with drive := { s.drive with devices := (ds.foldl stopIfQueued s).drive.devices } } := by
  induction ds generalizing s with
  | nil => rfl
  | cons d ds ih =>
    have hone : stopIfQueued s d = { s with drive := { s.drive with devices := (stopIfQueued s d).drive.devices } } := by
      rw [stopIfQueued_eq]
      split_ifs <;> rfl
    rw [List.foldl_cons, ih, hone]

theorem foldl_stopIfQueued_dev {ds : List Device} (hds : ds.Nodup) (s : State) (d : Device) :
    (ds.foldl stopIfQueued s).dev d =
      if d ∈ ds ∧ (s.dev d).startQueued = true ∧ s.isBarred d = false then
        { s.dev d with outstanding := some .stop, queued := some ⟨.stop, s.now⟩, nextStart := none }
      else s.dev d := by
  induction ds generalizing s with
  | nil => simp
  | cons x ds ih =>
    obtain ⟨hx, hds⟩ := List.nodup_cons.mp hds
    have hkeeps : (stopIfQueued s x).now = s.now ∧ ∀ e, (stopIfQueued s x).isBarred e = s.isBarred e := by
      rw [stopIfQueued_eq]
      split_ifs <;> exact ⟨rfl, fun _ => rfl⟩
    obtain ⟨hnow, hbarred⟩ := hkeeps
    rw [List.foldl_cons, ih hds, hnow, hbarred]
    by_cases hd : d = x
    · subst hd
      rw [stopIfQueued_eq]
      by_cases hstops : (s.dev d).startQueued = true ∧ s.isBarred d = false
      · simp [hx, hstops]
      · simp [hx, hstops]
    · have hother : (stopIfQueued s x).dev d = s.dev d := by
        rw [stopIfQueued_eq]
        split_ifs
        · exact setDev_dev_ne s _ hd
        · rfl
      simp [hother, hd]

theorem pushPlan_releaseReservation {s : State} {c : Chamber} {l : LockageRecord} (hl : (s.seq c).lockage = some l) :
    (s.pushPlan c l).releaseReservation c =
      { withRecord s c { l with reservation := .none } with
        traffic := (s.pushPlan c l).traffic
        acct :=
          { s.acct with
            reservations := if l.reservation = .none then s.acct.reservations else s.acct.reservations - 1 } } := by
  have hl' : ((s.pushPlan c l).seq c).lockage = some l := by
    rw [pushPlan_eq]
    exact hl
  rw [releaseReservation_of_lockage hl', pushPlan_eq]
  rfl

/-- Push, release and restart order of a preemption (R135, R69). -/
theorem preempt_pushedFor {s : State} {c : Chamber} {l : LockageRecord} (v : Vessel) (hl : (s.seq c).lockage = some l) :
    ∃ u, PushedFor s c v l u ∧ s.preempt c l v = u.enterForming c v.direction [] := by
  obtain ⟨pushed, hpushed⟩ : ∃ x, x = (s.pushPlan c l).releaseReservation c := ⟨_, rfl⟩
  let cleared := pushed.clearStepWait c
  refine ⟨(cleared.stopQueued c).produce (pushed.preemptNotice c l v), ?_, by subst hpushed; rfl⟩
  rw [pushPlan_releaseReservation hl] at hpushed
  have hother : c.other ≠ c := by cases c <;> decide
  have hnodup : c.devices.Nodup := by cases c <;> decide
  have hstopped : cleared.stopQueued c = _ := foldl_stopIfQueued_eq c.devices cleared
  have htraffic : ((cleared.stopQueued c).produce (pushed.preemptNotice c l v)).traffic = pushed.traffic := by
    rw [hstopped]
    rfl
  have hseq (x : Chamber) :
      ((cleared.stopQueued c).produce (pushed.preemptNotice c l v)).seq x = cleared.seq x := by
    rw [hstopped]
    rfl
  have hcleared : cleared.seq c = { s.seq c with lockage := some { l with reservation := .none }, stepWait := none } := by
    simp [cleared, State.clearStepWait, State.seq, hpushed, withRecord]
  refine ⟨?_, ?_, ?_, ?_, ?_, fun d => ?_, ?_⟩
  · rw [htraffic, hpushed]
    exact congrArg State.traffic (pushPlan_eq s c l)
  · rw [hstopped]
    exact congrArg State.acct hpushed
  · rw [State.phase, hseq, hcleared]
    rfl
  · rw [hseq, hcleared]
  · rw [hseq]
    simp [cleared, State.clearStepWait, State.seq, hpushed, withRecord, hother]
  · have hdev := foldl_stopIfQueued_dev hnodup cleared d
    subst hpushed
    exact hdev
  · rw [htraffic, hstopped]
    subst hpushed
    rfl

/-! ### Emergency handling (R132) -/

theorem tryWay_of_waiting {s : State} {h : Nat} {v : Vessel} (w : Way) (c : Chamber) (hv : s.vessel? h = some v)
    (hwaiting : v.state = .waiting) (hcls : v.cls = .emergency) : s.tryWay w h c = (s.wayAt? v w c).getD s := by
  simp [State.tryWay, hv, hwaiting, hcls]

/-- The ways of emergency handling, each by its conditions and its effect (R132 to R135). -/
theorem emergencyHandling : EmergencyHandling := by
  refine fun s h => ⟨rfl, fun hno w c => ?_, fun v c hv hwaiting hcls => ?_⟩
  · obtain hsame | ⟨v, hv, hwaiting, hcls, -⟩ := tryWay_cases w h s c
    · exact hsame
    · exact ((hno v hv).elim (absurd hwaiting) (absurd hcls))
  · have hway (w : Way) := tryWay_of_waiting w c hv hwaiting hcls
    refine ⟨fun l hl => ?_, fun hno => ?_, fun hstart => ?_, fun hno => ?_, fun l hl => ?_, fun hno => ?_⟩
    · obtain ⟨t, ht, htaken⟩ := join_of_letsJoin hl
      rw [hway, State.wayAt?, ht]
      exact htaken
    · rw [hway, State.wayAt?]
      cases ht : s.join? c v with
      | none => rfl
      | some t =>
        obtain ⟨l, hl⟩ := letsJoin_of_join ht
        exact absurd hl (hno l)
    · rw [hway, State.wayAt?, State.emergencyStart?, if_pos ((startsFor_iff s c v).mpr hstart)]
      rfl
    · rw [hway, State.wayAt?, State.emergencyStart?, if_neg (mt (startsFor_iff s c v).mp hno)]
      rfl
    · have hrecord : (s.seq c).lockage = some l := hl.2.2.2.1
      obtain ⟨u, hpushed, hu⟩ := preempt_pushedFor v hrecord
      refine ⟨u, hpushed, ?_⟩
      simp only [hway, State.wayAt?, State.preempt?, hrecord, (preemptsFor_iff hrecord).mpr hl, if_true, hu,
        Option.getD_some]
    · rw [hway, State.wayAt?, State.preempt?]
      cases hrecord : (s.seq c).lockage with
      | none => rfl
      | some l =>
        dsimp only
        rw [if_neg (mt (preemptsFor_iff hrecord).mp (hno l))]
        rfl

end Sys2Proof.Machine.ApproachQueues
/-! ## Amending a vessel (R111) -/

namespace Sys2Proof.Machine.ApproachQueues

/-- The vessels of a table in which those of a handle have been rewritten, found by their handles. -/
theorem vessel_modVessel {s : State} {h : Nat} {g : Vessel → Vessel} (hg : ∀ v, v.handle = h → (g v).handle = h) (k : Nat) :
    (s.modVessel h g).vessel? k = if k = h then (s.vessel? h).map g else s.vessel? k := by
  have hhandle (v : Vessel) : (if v.handle = h then g v else v).handle = v.handle := by
    split_ifs with hv
    · rw [hg v hv, hv]
    · rfl
  have hfind : (s.modVessel h g).vessel? k = (s.vessel? k).map fun v => if v.handle = h then g v else v := by
    simp only [State.vessel?, State.modVessel, State.modTraffic, List.find?_map, Function.comp_def, hhandle]
  rw [hfind]
  cases hv : s.vessel? k with
  | none =>
    split_ifs with hk
    · rw [← hk, hv]
      rfl
    · rfl
  | some v =>
    have hvk := WaterLevels.vessel_handle hv
    split_ifs with hk
    · subst hk
      rw [hv, Option.map_some, Option.map_some, if_pos hvk]
    · rw [Option.map_some, if_neg (by rwa [hvk])]

/-- A WAITING vessel written anew and placed anew in its queue (R111). -/
def replaced (s : State) (h : Nat) (w : Vessel) : State := ((s.dequeue h).modVessel h fun _ => w).enqueue w

/-- The table holds the vessel as written. -/
theorem replaced_vessel {s : State} {h : Nat} {v w : Vessel} (hv : s.vessel? h = some v) (hw : w.handle = h) (k : Nat) :
    (replaced s h w).vessel? k = if k = h then some w else s.vessel? k := by
  have hmod := vessel_modVessel (s := s.dequeue h) (g := fun _ => w) (fun _ _ => hw) k
  have hv' : (s.dequeue h).vessel? h = some v := hv
  rw [hv', Option.map_some] at hmod
  exact hmod

/-- Its place in the queue that it has left is that of its new keys. -/
theorem replaced_placedIn (s : State) (h : Nat) {w : Vessel} (hw : w.handle = h) :
    placedIn s w ((s.traffic.queues.get w.direction.entryEnd).filter (· ≠ h))
      ((replaced s h w).traffic.queues.get w.direction.entryEnd) := by
  let u := (s.dequeue h).modVessel h fun _ => w
  have hqueue : u.traffic.queues.get w.direction.entryEnd =
      (s.traffic.queues.get w.direction.entryEnd).filter (· ≠ h) := by
    cases w.direction <;> rfl
  have hplace : (replaced s h w).traffic.queues.get w.direction.entryEnd =
      s.placeIn w ((s.traffic.queues.get w.direction.entryEnd).filter (· ≠ h)) := by
    rw [replaced, State.enqueue, State.modTraffic_traffic, PerEnd.get_set_self, hqueue]
    refine placeIn_congr rfl fun k hk => ?_
    have hne : k ≠ h := by simpa using (List.mem_filter.mp hk).2
    rw [vessel_modVessel (fun _ _ => hw), if_neg hne]
    rfl
  rw [hplace]
  exact placedIn_placeIn s w _

/-- From the other queue it is removed. -/
theorem replaced_exitQueue (s : State) (h : Nat) (w : Vessel) :
    (replaced s h w).traffic.queues.get w.direction.exitEnd =
      (s.traffic.queues.get w.direction.exitEnd).filter (· ≠ h) := by
  cases hd : w.direction <;> simp only [replaced, State.enqueue, hd] <;> rfl

/-- An amendment whose checks pass writes the vessel; the class decides whether emergency handling follows (R111). -/
theorem amendVesselBody_accepts {f : Frame} {h : Nat} {m : Option Mark} {a : Amendment} {cls : VesselClass} {v : Vessel}
    {s : State} (hlen : f.lengthMatches = true) (hf : f.link ≠ .toll) (hv : s.vessel? h = some v)
    (hm : m = none ∨ m = some v.mark) (hstate : v.state = .waiting) (hcls : a.cls = some cls)
    (hdims : dimensionsOk a.length a.beam a.draught a.account = true) (hvalid : s.configValid = true)
    (hfits : s.fitsSome a.length a.beam = true) (hacct : cls.exempt = true ∨ (s.account a.account).blocked = false) :
    amendVesselBody f h m a s = (replaced s h (v.amended a cls)).withEmergency (v.amended a cls) .none := by
  obtain rfl : v.handle = h := WaterLevels.vessel_handle hv
  have hacct' : s.accountOk cls a.account = true := by
    simpa [State.accountOk] using hacct
  rw [amendVesselBody, operates_of_ne_toll hf, resolve_of_vessel hv hm]
  simp only [WaterLevels.check_of_true, hstate, decide_true, State.amendChecked, hcls, hlen, hdims, hvalid, hfits, hacct',
    Bool.and_self]
  rfl

/-- Settles O23: both classes come to the same rewriting and placing of the vessel; what follows it differs. -/
theorem amendVesselRewritesRecord : Obligations.AmendVesselRewritesRecord := by
  intro dt f h m a cls v s hr hlen hf hv hm hstate hcls hdims hvalid hfits hacct w
  have hw : w.handle = h := WaterLevels.vessel_handle (v := v) hv
  have hbody : amendVesselBody f h m a (s.taken dt f) = (replaced (s.taken dt f) h w).withEmergency w .none :=
    amendVesselBody_accepts hlen hf hv hm hstate hcls hdims hvalid hfits hacct
  have hvessel := replaced_vessel (s := s.taken dt f) hv hw
  have hplaced := replaced_placedIn (s.taken dt f) h hw
  refine ⟨fun hne => ?_, fun hemergency => ?_⟩
  · have hquiet : amendVesselBody f h m a (s.taken dt f) = (replaced (s.taken dt f) h w).acceptQuiet .none :=
      hbody.trans (if_neg hne)
    obtain ⟨t, hnext, ht, hlinks⟩ := quiet_answers (code := 21) hr hquiet rfl rfl
    have htraffic : t.traffic = (replaced (s.taken dt f) h w).traffic := by rw [ht]
    refine ⟨t, hnext, ?_, hlinks, fun k => ?_, ?_, ?_⟩
    · rw [htraffic]
      exact ht
    · rw [State.vessel?, htraffic]
      exact hvessel k
    · rw [htraffic]
      exact replaced_exitQueue (s.taken dt f) h w
    · rw [htraffic]
      exact hplaced
  · refine ⟨carriedOut_of (body := amendVesselBody f h m a) hr ?_ ?_, hvessel, hplaced, rfl, emergencyHandling⟩
    · rw [hbody, State.withEmergency, if_pos hemergency, hw]
      rfl
    · exact handleEmergency_skeleton _ h

end Sys2Proof.Machine.ApproachQueues
/-! ## Adding a vessel to a plan (R125 to R127, R129) -/

namespace Sys2Proof.Machine.FormingLockages

open ApproachQueues

/-! ### The failed test (R125) -/

/-- A vessel that fails one of tests 1 to 6 is not taken, and the first that it fails is the failed test. -/
theorem tryTake_of_firstFailed {s : State} {c : Chamber} {l : LockageRecord} {v : Vessel} {r : Deferral}
    (hl : (s.seq c).lockage = some l) (hfails : firstFailed s c l v = some r) : s.tryTake c v = .failed r := by
  simp only [State.tryTake, hl, testFault_eq_firstFailed, hfails]

/-- A vessel that passes tests 1 to 6 and finds no record space is not taken. -/
theorem tryTake_of_no_space {s : State} {c : Chamber} {l : LockageRecord} {v : Vessel} (hl : (s.seq c).lockage = some l)
    (hpasses : firstFailed s c l v = none) (hspace : hasSpace s l v = false) : s.tryTake c v = .failed .recordSpace := by
  have hnone : s.recordSpace? c l v.cls = none := by
    refine Option.eq_none_iff_forall_ne_some.mpr fun t ht => ?_
    rw [hasSpace_of_recordSpace ht] at hspace
    cases hspace
  simp only [State.tryTake, hl, testFault_eq_firstFailed, hpasses, hnone]

/-! ### The checks of ADD VESSEL (R129) -/

/-- Checks 1 to 3 pass for the holder of a chamber with an open plan window who names a WAITING vessel. -/
theorem addVesselBody_eq_addChecked {f : Frame} {o : Operator} {c : Chamber} {h : Nat} {m : Option Mark} {v : Vessel}
    {s : State} (hlen : f.lengthMatches = true) (ho : f.link.operator? = some o) (hholder : s.holder c = some o)
    (hwindow : (s.seq c).planWindow = true) (hv : s.vessel? h = some v) (hm : m = none ∨ m = some v.mark)
    (hstate : v.state = .waiting) : addVesselBody f (some c) h m s = s.addChecked c v := by
  simp only [addVesselBody, State.asHolder, ho, hholder, hwindow, resolve_of_vessel hv hm, hstate, hlen, decide_true, if_true,
    WaterLevels.check_of_true]

theorem direction_of_lockage {s : State} {c : Chamber} {l : LockageRecord} (hl : (s.seq c).lockage = some l) :
    s.direction? c = some l.direction :=
  congrArg (Option.map LockageRecord.direction) hl

theorem addChecked_of_taken {s t : State} {c : Chamber} {v : Vessel} (hdirection : s.direction? c = some v.direction)
    (ht : s.tryTake c v = .taken t) : s.addChecked c v = t.acceptQuiet := by
  simp only [State.addChecked, hdirection, ht, decide_true, WaterLevels.check_of_true]

theorem addChecked_of_failed {s : State} {c : Chamber} {v : Vessel} {r : Deferral}
    (hdirection : s.direction? c = some v.direction) (hr : s.tryTake c v = .failed r) :
    s.addChecked c v = s.refuse (addRefusal r) := by
  simp only [State.addChecked, hdirection, hr, decide_true, WaterLevels.check_of_true]

/-! ### The answer -/

/-- A request that is accepted with a state to which no other block reacts leaves that state; its notices and reply go to the
ports. -/
theorem quiet_answers_with_notices {s u : State} {dt : Nat} {f : Frame} {code : Byte} {d : ReplyData} {body : State → Answer}
    (hr : Ready s f) (hb : body (s.taken dt f) = u.acceptQuiet d) (hl : u.links = (s.taken dt f).links) :
    ∃ t, s.request dt f code body = .next t ∧ t = { u with links := t.links, event := .blank } ∧
      LinksAnswered s t dt f code .ok d := by
  have hplace : (body (s.taken dt f)).place f code = (u.replied f code .ok d).finishQuiet := by
    rw [hb]
    rfl
  refine ⟨_, request_taken hr dt code body, ?_, ?_⟩
  · rw [hplace, finishQuiet_eq]
    rfl
  · rw [hplace]
    exact quiet_linksAnswered code .ok d hl

/-- Settles O25: the seven tests decide, and each outcome of them is one answer. -/
theorem addVesselTakesVessel : Obligations.AddVesselTakesVessel := by
  intro dt f o c h m v l s hr hlen ho hholder hwindow hv hm hstate hl hdirection
  have hbody : addVesselBody f (some c) h m (s.taken dt f) = (s.taken dt f).addChecked c v :=
    addVesselBody_eq_addChecked hlen ho hholder hwindow hv hm hstate
  have hl' : ((s.taken dt f).seq c).lockage = some l := hl
  have hdirection' : (s.taken dt f).direction? c = some v.direction := hdirection ▸ direction_of_lockage hl'
  have hrefused {r : Deferral} (hfails : (s.taken dt f).tryTake c v = .failed r) :
      OnlyAnswered s dt f 6 (addRefusal r) .none (exec (.addVessel dt f (some c) h m) s) :=
    refused_onlyAnswered (body := addVesselBody f (some c) h m) hr (hbody.trans (addChecked_of_failed hdirection' hfails))
  cases htests : firstFailed s c l v with
  | some r =>
    have hanswer := hrefused (tryTake_of_firstFailed hl' htests)
    cases r <;> exact hanswer
  | none =>
    cases hspace : hasSpace s l v with
    | false => exact hrefused (tryTake_of_no_space hl' htests hspace)
    | true =>
      obtain ⟨u, hu, htaken⟩ := tryTake_takes hl' htests hspace
      have hlinks : u.links = (s.taken dt f).links := congrArg (·.links) htaken
      obtain ⟨t, hnext, ht, hports⟩ :=
        quiet_answers_with_notices (code := 6) (body := addVesselBody f (some c) h m) hr
          (hbody.trans (addChecked_of_taken hdirection' hu)) hlinks
      refine ⟨t, hnext, ht.trans ?_, hports⟩
      exact congrArg (fun w : State => { w with links := t.links, event := .blank }) htaken

end Sys2Proof.Machine.FormingLockages

/-! ## The heads stay lit (R141, R142, R143)

An event that other blocks react to ends with every head lit anew. Any other event either leaves everything that a head depends on as
it is, or holds or releases the part. -/

namespace Sys2Proof.Machine.SignalHeads

/-! ### The table of R143 -/

theorem redPart_eq_none_iff (failed : PerLamp Bool) : redPart failed = none ↔ failed.red1 = true ∧ failed.red2 = true := by
  unfold redPart
  split_ifs <;> simp_all

theorem redPart_eq_red1_iff (failed : PerLamp Bool) : redPart failed = some .red1 ↔ failed.red1 = false := by
  unfold redPart
  split_ifs <;> simp_all

theorem redPart_eq_red2_iff (failed : PerLamp Bool) :
    redPart failed = some .red2 ↔ failed.red1 = true ∧ failed.red2 = false := by
  unfold redPart
  split_ifs <;> simp_all

theorem redPart_ne_green (failed : PerLamp Bool) : redPart failed ≠ some .green := by
  unfold redPart
  split_ifs <;> simp

/-- The model's two functions are the table of R143, aspect by aspect. -/
theorem litBy_shownFor {a : Aspect} (ha : a ≠ .dark) (failed : PerLamp Bool) :
    litBy a failed (shownFor a failed) (lampsFor a failed).get := by
  have hred (l : LampName) :
      (⟨!failed.red1, failed.red1 && !failed.red2, false⟩ : PerLamp Bool).get l = decide (redPart failed = some l) := by
    cases l with
    | red1 => simp [PerLamp.get, redPart_eq_red1_iff]
    | red2 => simp [PerLamp.get, redPart_eq_red2_iff]
    | green => simp [PerLamp.get, redPart_ne_green]
  cases a with
  | red => exact ⟨hred, by simp [shownFor, redPart_eq_none_iff]⟩
  | redGreen =>
    refine ⟨fun l => ?_, by simp [shownFor, redPart_eq_none_iff]⟩
    cases l with
    | red1 => simp [lampsFor, PerLamp.get, redPart_eq_red1_iff]
    | red2 => simp [lampsFor, PerLamp.get, redPart_eq_red2_iff]
    | green => simp [lampsFor, PerLamp.get, redPart_ne_green, redPart_eq_none_iff]
  | green =>
    cases hgreen : failed.green with
    | true =>
      simp only [litBy, lampsFor, shownFor, hgreen, if_true]
      exact ⟨hred, by simp [redPart_eq_none_iff]⟩
    | false =>
      simp only [litBy, lampsFor, shownFor, hgreen]
      refine ⟨fun l => ?_, rfl⟩
      cases l <;> rfl
  | doubleRed =>
    refine ⟨fun l => ?_, by simp [shownFor, redPart_eq_none_iff]⟩
    cases l <;> simp [lampsFor, PerLamp.get]
  | dark => exact absurd rfl ha

/-- A head shows GREEN, or lights its green lamp but for RED_GREEN, for the required aspect GREEN alone. -/
theorem eq_green_of_green_shown {a : Aspect} {failed : PerLamp Bool}
    (h : shownFor a failed = .green ∨ ((lampsFor a failed).green = true ∧ shownFor a failed ≠ .redGreen)) : a = .green := by
  cases a with
  | green => rfl
  | redGreen =>
    simp only [shownFor, lampsFor] at h
    split_ifs at h with hnoRed hfailed
    · simp [hnoRed] at h
    · simp [hfailed] at h
    · simp at h
  | red | doubleRed =>
    simp only [shownFor, lampsFor] at h
    split_ifs at h <;> simp at h
  | dark => simp [shownFor, lampsFor] at h

/-! ### The table of R141 -/

section
variable (w : Direction) (gate : Position) (e : End) (x : Side)

theorem aspectOf_entryOpening :
    aspectOf .entryOpening (some w) gate e x = if x = .outer ∧ e = w.entryEnd then .redGreen else .red := by
  cases x <;> simp [aspectOf]

theorem aspectOf_entry :
    aspectOf .entry (some w) gate e x = if (x = .outer ∧ e = w.entryEnd) ∧ gate = .opened then .green else .red := by
  cases x <;> simp [aspectOf]

theorem aspectOf_exitOpening :
    aspectOf .exitOpening (some w) gate e x = if x = .inner ∧ e = w.exitEnd then .redGreen else .red := by
  cases x <;> simp [aspectOf]

theorem aspectOf_exit :
    aspectOf .exit (some w) gate e x = if (x = .inner ∧ e = w.exitEnd) ∧ gate = .opened then .green else .red := by
  cases x <;> simp [aspectOf]

end

theorem aspectOf_of_other_phase {p : Phase}
    (hp : p ∉ [Phase.outOfService, .lockedOut, .entryOpening, .entry, .exitOpening, .exit]) (d : Option Direction)
    (gate : Position) (e : End) (x : Side) : aspectOf p d gate e x = .red := by
  cases p <;> simp [aspectOf] at hp ⊢

theorem aspectOf_ne_dark (p : Phase) (d : Option Direction) (gate : Position) (e : End) (x : Side) :
    aspectOf p d gate e x ≠ .dark := by
  unfold aspectOf
  repeat' split
  all_goals simp

/-- GREEN is required over an open gate alone, outside at the entry end in ENTRY, inside at the exit end in EXIT. -/
theorem eq_of_aspectOf_green {p : Phase} {d : Option Direction} {gate : Position} {e : End} {x : Side}
    (h : aspectOf p d gate e x = .green) :
    gate = .opened ∧ ∃ w, d = some w ∧
      ((p = .entry ∧ x = .outer ∧ e = w.entryEnd) ∨ (p = .exit ∧ x = .inner ∧ e = w.exitEnd)) := by
  cases d with
  | none => cases p <;> simp [aspectOf] at h
  | some w =>
    cases p with
    | entry =>
      rw [aspectOf_entry] at h
      split_ifs at h with hc
      exact ⟨hc.2, w, rfl, .inl ⟨rfl, hc.1⟩⟩
    | exit =>
      rw [aspectOf_exit] at h
      split_ifs at h with hc
      exact ⟨hc.2, w, rfl, .inr ⟨rfl, hc.1⟩⟩
    | entryOpening =>
      rw [aspectOf_entryOpening] at h
      split_ifs at h
    | exitOpening =>
      rw [aspectOf_exitOpening] at h
      split_ifs at h
    | _ => simp [aspectOf] at h

/-! ### The required aspect of a head (R141, R142) -/

theorem requiredAspect_of_not_ended {s : State} (h : s.start.stage ≠ .ended) (x : Head) : s.requiredAspect x = .red := if_neg h

theorem requiredAspect_of_ended {s : State} (h : s.start.stage = .ended) (x : Head) :
    s.requiredAspect x =
      aspectOf (s.phase x.chamber) (s.direction? x.chamber) (s.dev (.gate x.chamber x.atEnd)).position x.atEnd x.side :=
  if_pos h

theorem requiredAspect_ne_dark (s : State) (x : Head) : s.requiredAspect x ≠ .dark := by
  by_cases h : s.start.stage = .ended
  · rw [requiredAspect_of_ended h]
    exact aspectOf_ne_dark _ _ _ _ _
  · rw [requiredAspect_of_not_ended h]
    simp

theorem requiredOf_requiredAspect (s : State) (x : Head) : requiredOf s x (s.requiredAspect x) := by
  refine ⟨fun h => requiredAspect_of_not_ended h x, fun h => ?_⟩
  rw [requiredAspect_of_ended h]
  refine ⟨?_, fun l hl => ?_, fun hp => aspectOf_of_other_phase hp ..⟩
  · rintro (hp | hp) <;> rw [hp] <;> rfl
  · rw [FormingLockages.direction_of_lockage hl]
    refine ⟨fun hp => ?_, fun hp => ?_, fun hp => ?_, fun hp => ?_⟩ <;> rw [hp]
    · rw [aspectOf_entryOpening]
      exact ⟨fun h => if_pos h, fun h => if_neg h⟩
    · rw [aspectOf_entry]
      exact ⟨fun h => if_pos h, fun h => if_neg h⟩
    · rw [aspectOf_exitOpening]
      exact ⟨fun h => if_pos h, fun h => if_neg h⟩
    · rw [aspectOf_exit]
      exact ⟨fun h => if_pos h, fun h => if_neg h⟩

/-- A head whose required aspect is GREEN stands over an open gate, in the phase of its own end (R141). -/
theorem gate_open_of_requiredAspect_green {s : State} {x : Head} (h : s.requiredAspect x = .green) :
    (s.dev (.gate x.chamber x.atEnd)).position = .opened ∧
      ∃ l, (s.seq x.chamber).lockage = some l ∧
        ((s.phase x.chamber = .entry ∧ x.side = .outer ∧ x.atEnd = l.direction.entryEnd) ∨
          (s.phase x.chamber = .exit ∧ x.side = .inner ∧ x.atEnd = l.direction.exitEnd)) := by
  have hended : s.start.stage = .ended := by
    by_contra hstage
    rw [requiredAspect_of_not_ended hstage] at h
    cases h
  rw [requiredAspect_of_ended hended] at h
  obtain ⟨hgate, w, hw, hhead⟩ := eq_of_aspectOf_green h
  obtain ⟨l, hl, rfl⟩ := Option.map_eq_some_iff.mp hw
  exact ⟨hgate, l, hl, hhead⟩

end Sys2Proof.Machine.SignalHeads

/-! ## Lighting the heads at the end of an event (R143) -/

namespace Sys2Proof.Machine.SignalHeads

/-! ### Lighting a head (R143) -/

@[simp] theorem command_commanded (l : LampRecord) (on : Bool) : (l.command on).commanded = on := by
  unfold LampRecord.command
  split_ifs with h
  · simp_all
  · rfl

@[simp] theorem command_failed (l : LampRecord) (on : Bool) : (l.command on).failed = l.failed := by
  unfold LampRecord.command
  split_ifs <;> rfl

@[simp] theorem command_stray (l : LampRecord) (on : Bool) : (l.command on).stray = l.stray := by
  unfold LampRecord.command
  split_ifs <;> rfl

@[simp] theorem light_failed (h : HeadRecord) (a : Aspect) : (h.light a).failed = h.failed := by
  simp [HeadRecord.light, HeadRecord.failed, PerLamp.map]

@[simp] theorem light_stray (h : HeadRecord) (a : Aspect) : (h.light a).lamps.map (·.stray) = h.lamps.map (·.stray) := by
  simp [HeadRecord.light, PerLamp.map]

theorem light_lit (h : HeadRecord) (a : Aspect) : (h.light a).lit a := by
  refine ⟨rfl, ?_, ?_⟩
  · rw [light_failed]
    rfl
  · rw [light_failed]
    simp [HeadRecord.light, PerLamp.map]

/-! ### What the heads hang on -/

/-- What a sequencer shows the heads: its phase and its direction (R141). -/
structure ChamberSignal where
  phase : Phase
  direction : Option Direction

/-- That view of a sequencer. -/
def chamberSignal (q : Sequencer) : ChamberSignal := ⟨q.phase, q.lockage.map (·.direction)⟩

/-- The heads and everything that says how they have to be lit: the hold, the start stage, the chambers and the positions of the
devices (R141, R142). -/
structure Signals where
  heads : PerHead HeadRecord
  hold : Hold
  stage : Stage
  chambers : PerChamber ChamberSignal
  positions : PerDevice Position

/-- That view of a state. -/
def signals (s : State) : Signals :=
  { heads := s.heads, hold := s.start.hold, stage := s.start.stage, chambers := s.seqs.map chamberSignal,
    positions := s.drive.devices.map (·.position) }

theorem requiredAspect_congr {s t : State} (h : signals t = signals s) (x : Head) : t.requiredAspect x = s.requiredAspect x := by
  have hstage : t.start.stage = s.start.stage := congrArg Signals.stage h
  have hchamber : chamberSignal (t.seq x.chamber) = chamberSignal (s.seq x.chamber) := by
    simpa [signals, State.seq] using congrArg (fun v => v.chambers.get x.chamber) h
  have hphase : t.phase x.chamber = s.phase x.chamber := congrArg ChamberSignal.phase hchamber
  have hdirection : t.direction? x.chamber = s.direction? x.chamber := congrArg ChamberSignal.direction hchamber
  have hposition : (t.dev (.gate x.chamber x.atEnd)).position = (s.dev (.gate x.chamber x.atEnd)).position := by
    simpa [signals, State.dev] using congrArg (fun v => v.positions.get (.gate x.chamber x.atEnd)) h
  simp only [State.requiredAspect, hstage, hphase, hdirection, hposition]

theorem isHeld_congr {s t : State} (h : signals t = signals s) : t.isHeld = s.isHeld := by
  have hhold : t.start.hold = s.start.hold := congrArg Signals.hold h
  simp only [State.isHeld, hhold]

/-- Whether the heads are lit is a matter of the signals. -/
theorem headsLit_of_signals {s t : State} (h : signals t = signals s) (hs : HeadsLit s) : HeadsLit t := by
  intro hheld x
  have hheads : t.heads = s.heads := congrArg Signals.heads h
  rw [requiredAspect_congr h, hheads]
  exact hs ((isHeld_congr h).symm.trans hheld) x

theorem headsLit_of_held {s : State} (h : s.isHeld = true) : HeadsLit s := fun hheld => by
  rw [h] at hheld
  cases hheld

/-! ### The end of an event -/

@[simp] theorem finishQuiet_signals (s : State) : signals s.finishQuiet = signals s := by
  rw [finishQuiet_eq]
  rfl

theorem finish_requiredAspect (s : State) (x : Head) : s.finish.requiredAspect x = s.settle.dispatch.requiredAspect x :=
  requiredAspect_congr (finishQuiet_signals _) x

/-- At the end of an event every head is lit for the aspect that is then required of it. -/
theorem finish_head (s : State) (x : Head) :
    PerHead.get s.finish.heads x = (PerHead.get s.heads x).light (s.finish.requiredAspect x) := by
  rw [finish_requiredAspect, finish_eq, finishQuiet_heads]
  simp [State.lightHeads]

theorem finish_head_lit (s : State) (x : Head) : (PerHead.get s.finish.heads x).lit (s.finish.requiredAspect x) := by
  rw [finish_head]
  exact light_lit ..

theorem finish_head_failed (s : State) (x : Head) : (PerHead.get s.finish.heads x).failed = (PerHead.get s.heads x).failed := by
  rw [finish_head, light_failed]

theorem finish_head_stray (s : State) (x : Head) :
    (PerHead.get s.finish.heads x).lamps.map (·.stray) = (PerHead.get s.heads x).lamps.map (·.stray) := by
  rw [finish_head, light_stray]

theorem finish_headsLit (s : State) : HeadsLit s.finish := fun _ x => finish_head_lit s x

theorem finishQuiet_headsLit {s u : State} (h : signals u = signals s) (hs : HeadsLit s) : HeadsLit u.finishQuiet :=
  headsLit_of_signals ((finishQuiet_signals u).trans h) hs

theorem when_headsLit {s u : State} (due : Bool) (hs : HeadsLit s) (hu : HeadsLit u) : HeadsLit (s.when due u) := by
  cases due
  · exact hs
  · exact hu

end Sys2Proof.Machine.SignalHeads

/-! ## Requests and the heads

A request that no other block reacts to writes nothing that a head hangs on. -/

namespace Sys2Proof.Machine.SignalHeads

/-! ### Operations that leave the signals -/

/-- A sequencer written with its phase and its direction as they were keeps the signals. -/
theorem signals_of_seqs_set {s t : State} {c : Chamber} {q : Sequencer} (hheads : t.heads = s.heads) (hstart : t.start = s.start)
    (hdrive : t.drive = s.drive) (hseqs : t.seqs = s.seqs.set c q) (hq : chamberSignal q = chamberSignal (s.seq c)) :
    signals t = signals s := by
  have hchambers : t.seqs.map chamberSignal = s.seqs.map chamberSignal := by
    rw [hseqs]
    cases c <;> simp only [PerChamber.map, PerChamber.set, hq] <;> rfl
  simp only [signals, hheads, hstart, hdrive, hchambers]

theorem modLockage_signals (s : State) (c : Chamber) {g : LockageRecord → LockageRecord}
    (h : ∀ l, (g l).direction = l.direction) : signals (s.modLockage c g) = signals s := by
  refine signals_of_seqs_set rfl rfl rfl rfl ?_
  simp [chamberSignal, State.seq, Function.comp_def, h]

theorem tryTake_signals {s t : State} {c : Chamber} {v : Vessel} (h : s.tryTake c v = .taken t) : signals t = signals s := by
  obtain ⟨l, hl, hpasses, hspace⟩ := ApproachQueues.passes_of_tryTake h
  obtain ⟨u, hu, htaken⟩ := ApproachQueues.tryTake_takes hl hpasses hspace
  obtain rfl : t = u := by
    rw [h] at hu
    injection hu
  have htakenInto : signals (takenInto s c v l) = signals s :=
    signals_of_seqs_set rfl rfl rfl rfl (by simp [chamberSignal, hl])
  exact (congrArg signals htaken).trans htakenInto

theorem releaseIfEmpty_signals (s : State) (c : Chamber) : signals (s.releaseIfEmpty c) = signals s := by
  unfold State.releaseIfEmpty State.releaseReservation
  split
  · split_ifs
    · split
      · rfl
      · split_ifs
        · rfl
        · exact modLockage_signals _ c fun _ => rfl
    · rfl
  · rfl

theorem withdraw_signals (s : State) (v : Vessel) : signals (s.withdraw v) = signals s := by
  unfold State.withdraw
  split
  · exact (releaseIfEmpty_signals _ _).trans (modLockage_signals s _ fun _ => rfl)
  · rfl
  · rfl

theorem switchTest_signals (s : State) : signals s.switchTest = signals s := by
  unfold State.switchTest
  split
  · split_ifs <;> rfl
  · rfl

theorem dispatch_signals (s : State) : signals s.dispatch = signals s := by
  have hpositions : s.dispatch.drive.devices.map (·.position) = s.drive.devices.map (·.position) := by
    rcases dispatch_cases s with h | ⟨d, q, -, -, -, -, -, h⟩
    · rw [h]
    · rw [h]
      dsimp only
      rw [PerDevice.map_set]
      exact (congrArg _ (PerDevice.map_get _ _ d).symm).trans (PerDevice.set_get _ d)
  simp only [signals, dispatch_heads, dispatch_start, dispatch_seqs, hpositions]

/-! ### Requests -/

/-- A request's answer either calls for the reactions, at whose end the heads are lit, or leaves the signals. -/
def LeavesHeadsLit (s : State) (a : Answer) : Prop := a.settles = true ∨ signals a.state = signals s

@[simp] theorem refuse_leavesLit (s : State) (r : Result) : LeavesHeadsLit s (s.refuse r) := .inr rfl

@[simp] theorem accept_leavesLit (s u : State) (d : ReplyData) : LeavesHeadsLit s (u.accept d) := .inl rfl

theorem acceptQuiet_leavesLit {s u : State} {d : ReplyData} (h : signals u = signals s) :
    LeavesHeadsLit s (u.acceptQuiet d) := .inr h

theorem check_leavesLit {s : State} {ok : Bool} {r : Result} {a : Answer} (h : LeavesHeadsLit s a) :
    LeavesHeadsLit s (s.check ok r a) := by
  cases ok
  · exact refuse_leavesLit s r
  · exact h

theorem asHolder_leavesLit {s : State} {f : Frame} {c : Option Chamber} {body : Chamber → Answer}
    (h : ∀ c, LeavesHeadsLit s (body c)) : LeavesHeadsLit s (s.asHolder f c body) := by
  unfold State.asHolder
  split
  · exact refuse_leavesLit s _
  · split
    · exact refuse_leavesLit s _
    · split_ifs
      · exact h _
      · exact refuse_leavesLit s _

section
variable (f : Frame) (c : Option Chamber) (s : State)

/-! #### Authority -/

@[simp] theorem claimBody_leavesLit : LeavesHeadsLit s (claimBody f c s) := by
  unfold claimBody
  split
  · exact refuse_leavesLit s _
  · exact refuse_leavesLit s _
  · exact check_leavesLit (accept_leavesLit ..)

@[simp] theorem releaseBody_leavesLit : LeavesHeadsLit s (releaseBody f c s) := by
  unfold releaseBody
  split
  · exact refuse_leavesLit s _
  · exact refuse_leavesLit s _
  · split
    · exact refuse_leavesLit s _
    · exact check_leavesLit (accept_leavesLit ..)

@[simp] theorem presentBody_leavesLit : LeavesHeadsLit s (presentBody f s) :=
  check_leavesLit (check_leavesLit (acceptQuiet_leavesLit rfl))

@[simp] theorem seizeBody_leavesLit : LeavesHeadsLit s (seizeBody f c s) := by
  refine check_leavesLit ?_
  cases c with
  | none => exact refuse_leavesLit s _
  | some c => exact check_leavesLit (accept_leavesLit ..)

/-! #### Commands to a chamber -/

@[simp] theorem startLockageBody_leavesLit (d : Option Direction) : LeavesHeadsLit s (startLockageBody f c d s) := by
  refine asHolder_leavesLit fun c => check_leavesLit (check_leavesLit ?_)
  cases d with
  | none => exact refuse_leavesLit s _
  | some d => exact check_leavesLit (accept_leavesLit ..)

@[simp] theorem addVesselBody_leavesLit (h : Nat) (m : Option Mark) : LeavesHeadsLit s (addVesselBody f c h m s) := by
  refine asHolder_leavesLit fun c => check_leavesLit ?_
  split
  · exact refuse_leavesLit s _
  · refine check_leavesLit (check_leavesLit (check_leavesLit ?_))
    split
    · next ht => exact acceptQuiet_leavesLit (tryTake_signals ht)
    · exact refuse_leavesLit s _

@[simp] theorem closeEntryBody_leavesLit (list : List (Nat × Option Mark)) : LeavesHeadsLit s (closeEntryBody f c list s) := by
  refine asHolder_leavesLit fun c => check_leavesLit (check_leavesLit ?_)
  split
  · exact refuse_leavesLit s _
  · exact accept_leavesLit ..

@[simp] theorem exitDoneBody_leavesLit : LeavesHeadsLit s (exitDoneBody f c s) :=
  asHolder_leavesLit fun _ => check_leavesLit (check_leavesLit (accept_leavesLit ..))

@[simp] theorem holdBody_leavesLit : LeavesHeadsLit s (holdBody f c s) :=
  asHolder_leavesLit fun _ => check_leavesLit (check_leavesLit (accept_leavesLit ..))

@[simp] theorem resumeBody_leavesLit : LeavesHeadsLit s (resumeBody f c s) :=
  asHolder_leavesLit fun _ => check_leavesLit (check_leavesLit (check_leavesLit (accept_leavesLit ..)))

@[simp] theorem abandonBody_leavesLit : LeavesHeadsLit s (abandonBody f c s) :=
  asHolder_leavesLit fun _ => check_leavesLit (check_leavesLit (check_leavesLit (accept_leavesLit ..)))

@[simp] theorem acknowledgeFaultBody_leavesLit : LeavesHeadsLit s (acknowledgeFaultBody f c s) := by
  cases c with
  | none => exact refuse_leavesLit s _
  | some c =>
    exact asHolder_leavesLit fun _ => check_leavesLit (check_leavesLit (check_leavesLit (accept_leavesLit ..)))

@[simp] theorem acknowledgeFaultCrossBody_leavesLit : LeavesHeadsLit s (acknowledgeFaultCrossBody f s) :=
  check_leavesLit (check_leavesLit (check_leavesLit (accept_leavesLit ..)))

@[simp] theorem acknowledgeBody_leavesLit (x : Contents) : LeavesHeadsLit s (acknowledgeBody f x s) := by
  unfold acknowledgeBody
  split_ifs <;> simp

@[simp] theorem setModeBody_leavesLit (m : Option StepMode) : LeavesHeadsLit s (setModeBody f c m s) := by
  refine asHolder_leavesLit fun c => check_leavesLit (check_leavesLit ?_)
  cases m with
  | none => exact refuse_leavesLit s _
  | some m => exact accept_leavesLit ..

@[simp] theorem advanceBody_leavesLit : LeavesHeadsLit s (advanceBody f c s) :=
  asHolder_leavesLit fun _ => check_leavesLit (check_leavesLit (check_leavesLit (accept_leavesLit ..)))

@[simp] theorem setServiceBody_leavesLit (v : Option Service) : LeavesHeadsLit s (setServiceBody f c v s) := by
  refine asHolder_leavesLit fun c => ?_
  unfold State.serviceAnswer
  split
  · exact check_leavesLit (check_leavesLit (accept_leavesLit ..))
  · exact check_leavesLit (check_leavesLit (check_leavesLit (accept_leavesLit ..)))
  · exact check_leavesLit (refuse_leavesLit s _)

@[simp] theorem setAdmissionBody_leavesLit (n : Nat) : LeavesHeadsLit s (setAdmissionBody f c n s) :=
  asHolder_leavesLit fun _ => check_leavesLit (check_leavesLit (acceptQuiet_leavesLit rfl))

/-! #### The desk -/

@[simp] theorem clearLockoutBody_leavesLit : LeavesHeadsLit s (clearLockoutBody f c s) := by
  refine check_leavesLit ?_
  cases c with
  | none => exact refuse_leavesLit s _
  | some c => exact check_leavesLit (check_leavesLit (accept_leavesLit ..))

@[simp] theorem lampCheckBody_leavesLit : LeavesHeadsLit s (lampCheckBody f s) :=
  check_leavesLit (check_leavesLit (accept_leavesLit ..))

@[simp] theorem loadConfigurationBody_leavesLit (block : List Byte) (x : StoreAnswer) :
    LeavesHeadsLit s (loadConfigurationBody f block x s) := by
  refine check_leavesLit (check_leavesLit (check_leavesLit ?_))
  unfold State.writeConfiguration
  dsimp only
  split_ifs <;> exact .inr rfl

/-! #### Vessels -/

theorem withEmergency_leavesLit {s u : State} (v : Vessel) (d : ReplyData) (h : signals u = signals s) :
    LeavesHeadsLit s (u.withEmergency v d) := by
  unfold State.withEmergency
  split_ifs
  · exact accept_leavesLit ..
  · exact acceptQuiet_leavesLit h

@[simp] theorem registerVesselBody_leavesLit (r : Registration) : LeavesHeadsLit s (registerVesselBody f r s) := by
  refine check_leavesLit ?_
  split
  · refine check_leavesLit (check_leavesLit (check_leavesLit (check_leavesLit (check_leavesLit ?_))))
    split
    · exact refuse_leavesLit s _
    · exact withEmergency_leavesLit _ _ rfl
  · exact refuse_leavesLit s _

@[simp] theorem amendVesselBody_leavesLit (h : Nat) (m : Option Mark) (a : Amendment) :
    LeavesHeadsLit s (amendVesselBody f h m a s) := by
  refine check_leavesLit ?_
  split
  · exact refuse_leavesLit s _
  · refine check_leavesLit ?_
    unfold State.amendChecked
    split
    · exact refuse_leavesLit s _
    · exact check_leavesLit (check_leavesLit (check_leavesLit (check_leavesLit (withEmergency_leavesLit _ _ rfl))))

@[simp] theorem withdrawVesselBody_leavesLit (h : Nat) (m : Option Mark) : LeavesHeadsLit s (withdrawVesselBody f h m s) := by
  refine check_leavesLit ?_
  split
  · exact refuse_leavesLit s _
  · exact check_leavesLit (check_leavesLit (acceptQuiet_leavesLit (withdraw_signals s _)))

@[simp] theorem readVesselBody_leavesLit (h : Nat) (m : Option Mark) : LeavesHeadsLit s (readVesselBody f h m s) := by
  unfold readVesselBody
  split
  · exact refuse_leavesLit s _
  · exact check_leavesLit (acceptQuiet_leavesLit rfl)

@[simp] theorem readQueueBody_leavesLit (e : Option End) (n : Nat) : LeavesHeadsLit s (readQueueBody f e n s) := by
  cases e with
  | none => exact refuse_leavesLit s _
  | some e => exact check_leavesLit (acceptQuiet_leavesLit rfl)

/-! #### Clock, tariffs and accounts -/

@[simp] theorem setTimeBody_leavesLit (day second weekday : Nat) : LeavesHeadsLit s (setTimeBody f day second weekday s) :=
  check_leavesLit (check_leavesLit (acceptQuiet_leavesLit rfl))

@[simp] theorem loadTariffBody_leavesLit (t : Tariff) (i : Option Instant) : LeavesHeadsLit s (loadTariffBody f t i s) :=
  check_leavesLit (check_leavesLit (check_leavesLit (acceptQuiet_leavesLit (by cases i <;> rfl))))

@[simp] theorem readTariffBody_leavesLit (x : Option Slot) : LeavesHeadsLit s (readTariffBody f x s) := by
  cases x with
  | none => exact refuse_leavesLit s _
  | some x =>
    refine check_leavesLit ?_
    split
    · exact refuse_leavesLit s _
    · exact acceptQuiet_leavesLit rfl

@[simp] theorem blockAccountBody_leavesLit (n : Nat) : LeavesHeadsLit s (blockAccountBody f n s) :=
  check_leavesLit (check_leavesLit (acceptQuiet_leavesLit rfl))

@[simp] theorem unblockAccountBody_leavesLit (n : Nat) : LeavesHeadsLit s (unblockAccountBody f n s) :=
  check_leavesLit (check_leavesLit (acceptQuiet_leavesLit rfl))

@[simp] theorem peekRecordBody_leavesLit : LeavesHeadsLit s (peekRecordBody f s) := by
  refine check_leavesLit (check_leavesLit ?_)
  split
  · exact refuse_leavesLit s _
  · exact acceptQuiet_leavesLit rfl

@[simp] theorem takeRecordBody_leavesLit (expected : Option Nat) : LeavesHeadsLit s (takeRecordBody f expected s) := by
  refine check_leavesLit (check_leavesLit ?_)
  split
  · exact refuse_leavesLit s _
  · exact check_leavesLit (acceptQuiet_leavesLit rfl)

@[simp] theorem closePeriodBody_leavesLit : LeavesHeadsLit s (closePeriodBody f s) :=
  check_leavesLit (check_leavesLit (acceptQuiet_leavesLit rfl))

@[simp] theorem readPeriodImageBody_leavesLit (n : Nat) : LeavesHeadsLit s (readPeriodImageBody f n s) := by
  refine check_leavesLit (check_leavesLit ?_)
  split
  · exact refuse_leavesLit s _
  · exact acceptQuiet_leavesLit rfl

@[simp] theorem readAccountBody_leavesLit (n : Nat) : LeavesHeadsLit s (readAccountBody f n s) :=
  check_leavesLit (acceptQuiet_leavesLit rfl)

@[simp] theorem readStatusBody_leavesLit (which : Nat) : LeavesHeadsLit s (readStatusBody f which s) := by
  unfold readStatusBody
  split
  · exact refuse_leavesLit s _
  · exact check_leavesLit (acceptQuiet_leavesLit rfl)

end

/-- The request of every kind code. -/
theorem requestBody_leavesLit (code : Byte) (f : Frame) (contents : List Byte) (x : Contents) (s : State) :
    LeavesHeadsLit s (requestBody code f contents x s) := by
  unfold requestBody
  split <;> simp

/-! ### Frames at a link port -/

theorem place_headsLit {s : State} {a : Answer} (f : Frame) (code : Byte) (hs : HeadsLit s) (h : LeavesHeadsLit s a) :
    HeadsLit (a.place f code) := by
  rw [place_eq]
  split_ifs with hsettles
  · exact finish_headsLit _
  · exact finishQuiet_headsLit (h.resolve_left hsettles) hs

theorem meetSlots_headsLit {s : State} {f : Frame} {code : Byte} {body : State → Answer} (hs : HeadsLit s)
    (h : LeavesHeadsLit s (body s)) : HeadsLit (s.meetSlots f code body) := by
  unfold State.meetSlots
  split
  · exact place_headsLit f code hs h
  · exact finishQuiet_headsLit (s := s) rfl hs
  · exact finishQuiet_headsLit rfl hs

theorem takeHeard_headsLit {s : State} (l : Link) (bytes : List ArrivedByte) (h : Heard) (hs : HeadsLit s) :
    HeadsLit (s.takeHeard l bytes h) :=
  meetSlots_headsLit hs (requestBody_leavesLit ..)

/-- The receiver that searches on among discarded bytes only takes requests (R183). -/
theorem discardFrame_headsLit {s : State} (l : Link) (gap : Bool) (bytes : List ArrivedByte) (hs : HeadsLit s) :
    HeadsLit (s.discardFrame l gap bytes) := by
  unfold State.discardFrame
  dsimp only
  split_ifs
  · exact hs
  · have hfound (found : List Heard) : HeadsLit (found.foldl (State.takeHeard l bytes) s.finishQuiet) :=
      List.foldlRecOn _ _ (finishQuiet_headsLit rfl hs) fun u hu h _ => takeHeard_headsLit l bytes h hu
    exact headsLit_of_signals rfl (hfound _)

end Sys2Proof.Machine.SignalHeads

/-! ## The lamp-current sample (R144, R145) -/

namespace Sys2Proof.Machine.SignalHeads

@[simp] theorem PerLamp.get_map {α β : Type} (g : α → β) (p : PerLamp α) (l : LampName) : (p.map g).get l = g (p.get l) := by
  cases l <;> rfl

theorem PerLamp.eq_of_get {α : Type} {p q : PerLamp α} (h : ∀ l, p.get l = q.get l) : p = q := by
  obtain ⟨red1, red2, green⟩ := p
  obtain ⟨red1', red2', green'⟩ := q
  have h1 : red1 = red1' := h .red1
  have h2 : red2 = red2' := h .red2
  have h3 : green = green' := h .green
  rw [h1, h2, h3]

/-! ### One lamp -/

@[simp] theorem sample_commanded (l : LampRecord) (active : Bool) : (l.sample active).commanded = l.commanded := by
  unfold LampRecord.sample
  split_ifs <;> rfl

theorem sample_sampledAs (l : LampRecord) (active : Bool) : sampledAs l active (l.sample active) := by
  unfold LampRecord.sample
  cases hon : l.commanded with
  | true =>
    cases hfailed : l.failed with
    | true => simp [sampledAs, hon, hfailed]
    | false =>
      cases active with
      | true => simp [sampledAs, hon, hfailed]
      | false => by_cases hlow : l.lowCount = 2 <;> simp [sampledAs, hon, hfailed, hlow]
  | false =>
    by_cases hsame : active = l.stray
    · simp [sampledAs, hon, hsame]
    · by_cases hthird : l.strayCount = 2 <;> simp [sampledAs, hon, hsame, hthird]

/-- A sample takes no latch away (R144). -/
theorem sample_failed_of_failed {l : LampRecord} (active : Bool) (h : l.failed = true) : (l.sample active).failed = true := by
  rw [(sample_sampledAs l active).1, h]
  rfl

/-! ### All lamps -/

theorem mem_lampPlaces (h : Head) (l : LampName) : (h, l) ∈ lampPlaces := by
  obtain ⟨c, e, x⟩ := h
  simp only [lampPlaces, List.mem_flatMap, List.mem_map, Prod.mk.injEq, Head.mk.injEq]
  exact ⟨c, by cases c <;> decide, e, by cases e <;> decide, x, by cases x <;> decide, l, by cases l <;> decide,
    ⟨rfl, rfl, rfl⟩, rfl⟩

/-- A sample counts the lamps, produces its notices and sets the moment of the next one, and that is all. -/
theorem lampSample_eq (s : State) (m : PerHead (PerLamp Bool)) :
    s.lampSample m =
      { s with
        heads := (s.sampleLamps m).heads
        nextLampSample := s.nextLampSample + 100
        event := { s.event with produced := s.event.produced ++ lampNotices s (s.sampleLamps m) } } := by
  have h := WaterLevels.foldl_produce id (lampNotices s (s.sampleLamps m))
    { s.sampleLamps m with nextLampSample := s.nextLampSample + lampSamplePeriod }
  rw [List.map_id] at h
  exact h

theorem lampSample_lamp (s : State) (m : PerHead (PerLamp Bool)) (h : Head) (l : LampName) :
    (s.lampSample m).lamp h l = (s.lamp h l).sample ((PerHead.get m h).get l) := by
  rw [lampSample_eq]
  cases l <;> simp [State.lamp, State.sampleLamps, PerLamp.get]

/-- A sample tells the other blocks nothing exactly when it latches no lamp and turns no stray value. -/
theorem sampleTells_eq_false_iff (s : State) (m : PerHead (PerLamp Bool)) :
    s.sampleTells m = false ↔
      ∀ h l, latchedNow s (s.lampSample m) h l = false ∧ strayChanged s (s.lampSample m) h l = false := by
  have hheads : (s.lampSample m).heads = (s.sampleLamps m).heads := by rw [lampSample_eq]
  have hlamp (h : Head) (l : LampName) : (s.lampSample m).lamp h l = (s.sampleLamps m).lamp h l := by
    simp only [State.lamp, hheads]
  simp only [State.sampleTells, List.any_eq_false, Bool.not_eq_true, Bool.or_eq_false_iff, latchedNow, strayChanged, hlamp]
  exact ⟨fun hall h l => hall (h, l) (mem_lampPlaces h l), fun hall x _ => hall x.1 x.2⟩

/-- The latches and the lit lamps of a head are as they were after a sample that tells nothing. -/
theorem lampSample_keeps_head {s : State} {m : PerHead (PerLamp Bool)} (h : s.sampleTells m = false) (x : Head) :
    (PerHead.get (s.lampSample m).heads x).failed = (PerHead.get s.heads x).failed ∧
      (PerHead.get (s.lampSample m).heads x).lamps.map (·.commanded) = (PerHead.get s.heads x).lamps.map (·.commanded) := by
  refine ⟨PerLamp.eq_of_get fun l => ?_, PerLamp.eq_of_get fun l => ?_⟩
  · simp only [HeadRecord.failed, PerLamp.get_map]
    have hlatch := ((sampleTells_eq_false_iff s m).mp h x l).1
    have hlamp := lampSample_lamp s m x l
    show ((s.lampSample m).lamp x l).failed = (s.lamp x l).failed
    cases hfailed : (s.lamp x l).failed with
    | true => rw [hlamp, sample_failed_of_failed _ hfailed]
    | false => simpa [latchedNow, hfailed] using hlatch
  · simp only [PerLamp.get_map]
    exact (congrArg LampRecord.commanded (lampSample_lamp s m x l)).trans (sample_commanded _ _)

end Sys2Proof.Machine.SignalHeads

/-! ## Every step keeps the heads lit -/

namespace Sys2Proof.Machine.SignalHeads

/-! ### Samples of the lamps -/

theorem lampSample_headsLit {s : State} {m : PerHead (PerLamp Bool)} (h : s.sampleTells m = false) (hs : HeadsLit s) :
    HeadsLit (s.lampSample m) := by
  intro hheld x
  obtain ⟨hfailed, hcommanded⟩ := lampSample_keeps_head h x
  have haspect : (s.lampSample m).requiredAspect x = s.requiredAspect x := by
    rw [lampSample_eq]
    rfl
  have hheld' : s.isHeld = false := by
    rw [lampSample_eq] at hheld
    exact hheld
  obtain ⟨hrequired, hshown, hlamps⟩ := hs hheld' x
  have hhead : (PerHead.get (s.lampSample m).heads x).required = (PerHead.get s.heads x).required ∧
      (PerHead.get (s.lampSample m).heads x).shown = (PerHead.get s.heads x).shown := by
    rw [lampSample_eq]
    simp [State.sampleLamps]
  rw [haspect]
  exact ⟨hhead.1.trans hrequired, by rw [hhead.2, hfailed, hshown], by rw [hcommanded, hfailed, hlamps]⟩

theorem sampleEvent_headsLit {s : State} (m : PerHead (PerLamp Bool)) (hs : HeadsLit s) : HeadsLit (s.sampleEvent m) := by
  unfold State.sampleEvent
  split_ifs with h
  · exact finish_headsLit _
  · exact finishQuiet_headsLit rfl (lampSample_headsLit (Bool.not_eq_true _ ▸ h) hs)

/-! ### Answers of the drives -/

theorem driveAnswer_headsLit {s : State} (address : Nat) (want : Task → Bool) (a : DriveAnswer) (hs : HeadsLit s) :
    HeadsLit (s.driveAnswer address want a) := by
  unfold State.driveAnswer
  split
  · exact when_headsLit _ hs (finish_headsLit _)
  · exact hs

/-! ### Holds and starts (R142, R201, R202) -/

/-- After a start every head shows RED with its first lamp, which is what R141 and R142 require before the start-up has ended. -/
theorem startPart_headsLit (s : State) : HeadsLit s.startPart := by
  intro _ x
  have hheads : s.startPart.heads = PerHead.all .initial := by
    unfold State.startPart State.freshVolatile
    rfl
  have hstage : s.startPart.start.stage ≠ .ended := by
    unfold State.startPart State.freshVolatile
    simp
  rw [requiredAspect_of_not_ended hstage, hheads]
  obtain ⟨c, e, side⟩ := x
  cases c <;> cases e <;> cases side <;> exact ⟨rfl, rfl, rfl⟩

theorem frameOut_headsLit {s : State} (l : Link) (hs : HeadsLit s) : HeadsLit (s.frameOut l) := by
  unfold State.frameOut
  split_ifs
  · exact headsLit_of_held (by simp [State.isHeld, State.holdPart])
  · exact finishQuiet_headsLit rfl hs

theorem tick_headsLit {s : State} (hs : HeadsLit s) : HeadsLit s.tick := by
  unfold State.tick
  split_ifs
  · exact hs
  · exact finishQuiet_headsLit (switchTest_signals s.tickClock) hs
  · exact hs

/-! ### Whole commands -/

theorem headsLit_after_request {s t : State} {dt : Nat} {f : Frame} {code : Byte} {body : State → Answer} (hs : HeadsLit s)
    (h : s.request dt f code body = .next t) (hb : ∀ u, LeavesHeadsLit u (body u)) : HeadsLit t := by
  injection h with h
  subst h
  split_ifs
  · exact hs
  · exact meetSlots_headsLit hs (hb _)

theorem headsLit_after_event {s t : State} {dt : Nat} {body : State → State} (hs : HeadsLit s) (h : s.event? dt body = .next t)
    (hb : ∀ u, HeadsLit u → HeadsLit (body u)) : HeadsLit t := by
  injection h with h
  subst h
  split_ifs
  · exact hs
  · exact hb _ hs

/-- An event that other blocks react to. -/
theorem headsLit_after_finish {s t : State} {dt : Nat} {due : State → Bool} {op : State → State} (hs : HeadsLit s)
    (h : (s.event? dt fun u => u.when (due u) (op u).finish) = .next t) : HeadsLit t :=
  headsLit_after_event hs h fun _ hu => when_headsLit _ hu (finish_headsLit _)

/-- An event that no other block reacts to, and that leaves the signals. -/
theorem headsLit_after_finishQuiet {s t : State} {dt : Nat} {due : State → Bool} {op : State → State} (hs : HeadsLit s)
    (h : (s.event? dt fun u => u.when (due u) (op u).finishQuiet) = .next t) (hop : ∀ u, signals (op u) = signals u) :
    HeadsLit t :=
  headsLit_after_event hs h fun u hu => when_headsLit _ hu (finishQuiet_headsLit (hop u) hu)

/-- Every command keeps the heads lit: a request by its answer, an event by the way it ends. -/
theorem exec_headsLit {c : Instr} {s t : State} (hs : HeadsLit s) (h : exec c s = .next t) : HeadsLit t := by
  unfold exec at h
  cases c with
  | claim | release | present | seize | startLockage | addVessel | closeEntry | exitDone | hold | resume | abandon
  | acknowledgeFault | acknowledgeFaultCross | setMode | advance | setService | setAdmission | clearLockout | lampCheck
  | loadConfiguration | registerVessel | amendVessel | withdrawVessel | setTime | loadTariff | blockAccount | unblockAccount
  | peekRecord | takeRecord | closePeriod | readPeriodImage | readStatus | readVessel | readQueue | readTariff | readAccount =>
    exact headsLit_after_request hs h fun u => by simp
  | unknownCommand dt l code tag =>
    change (if isRequestCode code then s.event? dt State.rest
      else s.request dt ⟨l, tag, true⟩ code fun s => s.refuse .unknownCommand) = .next t at h
    split_ifs at h
    · exact headsLit_after_event hs h fun _ hu => hu
    · exact headsLit_after_request hs h fun u => refuse_leavesLit u _
  | frameInvalid | frameGapTimeout => exact headsLit_after_event hs h fun _ hu => discardFrame_headsLit _ _ _ hu
  | holderSilence | claimantSilence | travelDeadlineExpiry | limitInputChange | sillBeamClear | limitConflict | crossConflict
  | scanCompletion | levelTimeout | levelLost | crossWaitExpiry | crossExchangeExpiry | configReadEnd | censusQueries =>
    exact headsLit_after_finish hs h
  | busyLink | frameDiscardedSlotsFull | limitConflictRearm | crossConflictRearm | scanStart | doneInputChange =>
    exact headsLit_after_finishQuiet hs h fun _ => rfl
  | deadTimeExpiry => exact headsLit_after_finishQuiet hs h dispatch_signals
  | startAnswer | stopAnswer | statusReply => exact headsLit_after_event hs h fun _ hu => driveAnswer_headsLit _ _ _ hu
  | driveAnswerTimeout =>
    refine headsLit_after_event hs h fun u hu => ?_
    split
    · exact finish_headsLit _
    · exact hu
  | driveFrameDiscarded =>
    refine headsLit_after_event hs h fun u hu => ?_
    split
    · exact driveAnswer_headsLit _ _ _ hu
    · exact hu
  | doneEvent dt d =>
    refine headsLit_after_event hs h fun u hu => when_headsLit _ hu ?_
    split_ifs
    · exact finish_headsLit _
    · exact finishQuiet_headsLit rfl hu
  | sillBeamBreak =>
    refine headsLit_after_event hs h fun u hu => when_headsLit _ hu ?_
    split_ifs <;> exact finish_headsLit _
  | lampLatch | lampStray | lampCurrentSample =>
    exact headsLit_after_event hs h fun u hu => when_headsLit _ hu (sampleEvent_headsLit _ hu)
  | frameSent => exact headsLit_after_event hs h fun u hu => when_headsLit _ hu (frameOut_headsLit _ hu)
  | clockTick dt =>
    injection h with h
    exact h ▸ tick_headsLit hs
  | resetLineHeld dt =>
    injection h with h
    exact h ▸ when_headsLit _ hs (headsLit_of_held (by simp [State.isHeld, State.holdPart]))
  | mainPowerHeld dt =>
    injection h with h
    exact h ▸ when_headsLit _ hs (headsLit_of_held (by simp [State.isHeld, State.holdPart]))
  | partReleased dt =>
    injection h with h
    exact h ▸ when_headsLit _ hs (startPart_headsLit _)
  | batteryLow dt =>
    injection h with h
    exact h ▸ when_headsLit _ hs (headsLit_of_signals rfl hs)

/-- A head that is lit for what is required of it meets the tables of R141 and R143. -/
theorem lit_meets_tables {s : State} {x : Head} (h : (PerHead.get s.heads x).lit (s.requiredAspect x)) :
    let r := PerHead.get s.heads x
    requiredOf s x r.required ∧ litBy r.required (r.lamps.map (·.failed)) r.shown (fun l => (r.lamps.get l).commanded) ∧
      ((r.shown = .green ∨ ((r.lamps.get .green).commanded = true ∧ r.shown ≠ .redGreen)) →
        s.requiredAspect x = .green) := by
  obtain ⟨hrequired, hshown, hlamps⟩ := h
  have hon (l : LampName) : ((PerHead.get s.heads x).lamps.get l).commanded =
      (lampsFor (s.requiredAspect x) (PerHead.get s.heads x).failed).get l := by
    rw [← hlamps, PerLamp.get_map]
  simp only [hrequired, hshown, hon]
  exact ⟨requiredOf_requiredAspect s x, litBy_shownFor (requiredAspect_ne_dark s x) _, eq_green_of_green_shown⟩

/-- Settles O9: the step runs the command at the front of the queue, which keeps the heads lit, and lit heads are those of the
tables. -/
theorem headsLitKept : Obligations.HeadsLitKept := by
  intro s t hs h
  have ht : HeadsLit t := by
    unfold step at h
    split at h
    · cases h
      exact hs
    · refine exec_headsLit ?_ h
      exact headsLit_of_signals (s := s) rfl hs
  refine ⟨ht, fun hheld x => ?_⟩
  obtain ⟨hrequired, hlit, hgreen⟩ := lit_meets_tables (ht hheld x)
  exact ⟨fun _ => hrequired, hlit, fun hshows => gate_open_of_requiredAspect_green (hgreen hshows)⟩

end Sys2Proof.Machine.SignalHeads

/-! ## LAMP CHECK (R147) -/

namespace Sys2Proof.Machine.SignalHeads

theorem checkLamps_head (s : State) (x : Head) :
    (PerHead.get s.checkLamps.heads x).lamps = (PerHead.get s.heads x).lamps.map LampRecord.check := by
  simp [State.checkLamps]

/-- LAMP CHECK leaves no latch and keeps the stray values. -/
theorem checkLamps_clears (s : State) (x : Head) :
    (PerHead.get s.checkLamps.heads x).failed = ⟨false, false, false⟩ ∧
      (PerHead.get s.checkLamps.heads x).lamps.map (·.stray) = (PerHead.get s.heads x).lamps.map (·.stray) := by
  rw [HeadRecord.failed, checkLamps_head]
  exact ⟨rfl, rfl⟩

/-- Settles O27: the check clears the lamps, and the end of its event lights the heads. -/
theorem lampCheckClearsLatches : Obligations.LampCheckClearsLatches := by
  intro dt f s hr hlen hdesk
  have hbody : lampCheckBody f (s.taken dt f) = (s.taken dt f).checkLamps.accept := by
    simp only [lampCheckBody, hdesk, hlen, decide_true, WaterLevels.check_of_true]
  have hplace : (lampCheckBody f (s.taken dt f)).place f 18 = ((s.taken dt f).checkLamps.replied f 18 .ok .none).finish := by
    rw [hbody]
    rfl
  have hnext : exec (.lampCheck dt f) s = .next ((s.taken dt f).checkLamps.replied f 18 .ok .none).finish :=
    hplace ▸ request_taken hr dt 18 (lampCheckBody f)
  refine ⟨⟨_, hnext, rfl, finish_linksAnswered 18 .ok .none rfl, (finish_frame _).trans rfl⟩, fun t ht x => ?_⟩
  obtain rfl : _ = t := by injection hnext.symm.trans ht
  obtain ⟨hfailed, hstray⟩ := checkLamps_clears (s.taken dt f) x
  exact ⟨(finish_head_failed _ x).trans hfailed, finish_head_lit _ x, (finish_head_stray _ x).trans hstray⟩

end Sys2Proof.Machine.SignalHeads

/-! ## A lamp-current sample as a whole event (R144, R145) -/

namespace Sys2Proof.Machine.SignalHeads

section
variable {s : State} {dt : Nat} {m : PerHead (PerLamp Bool)}

theorem lampSampleDue_iff : (s.beginEvent dt).lampSampleDue = true ↔ s.nextLampSample ≤ s.now + dt := decide_eq_true_iff

theorem lampSample_latchedNow (h : Head) (l : LampName) :
    latchedNow s (s.lampSample m) h l = latchedNow s (s.sampleLamps m) h l := by
  rw [lampSample_eq]
  rfl

theorem lampSample_strayChanged (h : Head) (l : LampName) :
    strayChanged s (s.lampSample m) h l = strayChanged s (s.sampleLamps m) h l := by
  rw [lampSample_eq]
  rfl

/-- A sample that tells nothing produces no notice. -/
theorem lampNotices_of_silent (h : s.sampleTells m = false) : lampNotices s (s.sampleLamps m) = [] := by
  refine List.filterMap_eq_nil_iff.mpr fun x _ => ?_
  obtain ⟨hlatch, hstray⟩ := (sampleTells_eq_false_iff s m).mp h x.1 x.2
  rw [lampSample_latchedNow] at hlatch
  rw [lampSample_strayChanged] at hstray
  simp [hlatch, hstray]

theorem lampSample_frame : (s.lampSample m).frame = { s.frame with nextLampSample := s.nextLampSample + 100 } := by
  rw [lampSample_eq]
  rfl

/-- A sample's event before its moment only lets the time pass, whatever else its row asks for (log 5). -/
theorem event_sample_early (told : State → Bool) (hh : s.isHeld = false) (hearly : s.now + dt < s.nextLampSample) :
    (s.event? dt fun u => u.when (u.lampSampleDue && told u) (u.sampleEvent m)) =
      .next { s with now := s.now + dt, event := .blank } := by
  have hdue : (s.beginEvent dt).lampSampleDue = false :=
    Bool.eq_false_iff.mpr fun h => absurd (lampSampleDue_iff.mp h) (Nat.not_le.mpr hearly)
  rw [event_taken hh, hdue, Bool.false_and]
  rfl

/-- At its moment the sample is taken when what its row asks for holds. -/
theorem event_sample_due (told : State → Bool) (hh : s.isHeld = false) (hdue : s.nextLampSample ≤ s.now + dt)
    (htold : told (s.beginEvent dt) = true) :
    (s.event? dt fun u => u.when (u.lampSampleDue && told u) (u.sampleEvent m)) = .next ((s.beginEvent dt).sampleEvent m) := by
  rw [event_taken hh, lampSampleDue_iff.mpr hdue, htold]
  rfl

/-- The plain row asks for nothing beside the moment. -/
theorem exec_lampCurrentSample :
    exec (.lampCurrentSample dt m) s = s.event? dt fun u => u.when (u.lampSampleDue && true) (u.sampleEvent m) := by
  simp only [Bool.and_true]
  rfl

theorem exec_sample_due (hh : s.isHeld = false) (hdue : s.nextLampSample ≤ s.now + dt) :
    exec (.lampCurrentSample dt m) s = .next ((s.beginEvent dt).sampleEvent m) :=
  exec_lampCurrentSample.trans (event_sample_due (fun _ => true) hh hdue rfl)

theorem exec_sample_early (hh : s.isHeld = false) (hearly : s.now + dt < s.nextLampSample) {c : Instr}
    (hc : c = .lampCurrentSample dt m ∨ ∃ h l, c = .lampLatch dt h l m ∨ c = .lampStray dt h l m) :
    exec c s = .next { s with now := s.now + dt, event := .blank } := by
  obtain rfl | ⟨h, l, rfl | rfl⟩ := hc
  · exact exec_lampCurrentSample.trans (event_sample_early (fun _ => true) hh hearly)
  · exact event_sample_early (fun u => latchedNow u (u.sampleLamps m) h l) hh hearly
  · exact event_sample_early (fun u => strayChanged u (u.sampleLamps m) h l) hh hearly

/-- A sample that tells nothing ends its event quietly. -/
theorem sampleEvent_silent (h : (s.beginEvent dt).sampleTells m = false) :
    LinksQuiet s ((s.beginEvent dt).sampleEvent m) ∧
      (s.beginEvent dt).sampleEvent m =
        { s with
          now := s.now + dt
          heads := ((s.beginEvent dt).lampSample m).heads
          nextLampSample := s.nextLampSample + 100
          links := ((s.beginEvent dt).sampleEvent m).links
          event := .blank } := by
  have hproduced : ((s.beginEvent dt).lampSample m).event.produced = [] := by
    rw [lampSample_eq, lampNotices_of_silent h]
    rfl
  have hdeferred : ((s.beginEvent dt).lampSample m).event.deferred = .both false := by
    rw [lampSample_eq]
    rfl
  have hlinks : ((s.beginEvent dt).lampSample m).links = s.links := by
    rw [lampSample_eq]
    rfl
  have hend : (s.beginEvent dt).sampleEvent m = ((s.beginEvent dt).lampSample m).finishQuiet := by
    simp only [State.sampleEvent, h, Bool.false_eq_true, if_false]
  rw [hend]
  refine ⟨fun l => ?_, (finishQuiet_eq _).trans (by rw [lampSample_eq]; rfl)⟩
  rw [finishQuiet_port_silent hproduced hdeferred, State.port, hlinks]
  rfl

end

/-- Settles O58: each lamp counts by its own rule; what the sample tells decides how its event ends. -/
theorem lampSamples : Obligations.LampSamples := by
  intro dt m s hh u quiet next
  have htells : quiet ↔ (s.beginEvent dt).sampleTells m = false := (sampleTells_eq_false_iff (s.beginEvent dt) m).symm
  refine ⟨fun hearly c hc => exec_sample_early hh hearly hc, fun hdue => ⟨fun h l => ?_, fun hquiet => ?_, fun hloud => ?_,
    fun h l hlatch => ?_, fun h l hstray => ?_⟩⟩
  · have hlamp : u.lamp h l = (s.lamp h l).sample ((PerHead.get m h).get l) := lampSample_lamp (s.beginEvent dt) m h l
    rw [hlamp]
    exact ⟨sample_sampledAs _ _, sample_commanded _ _⟩
  · obtain ⟨hports, hstate⟩ := sampleEvent_silent (htells.mp hquiet)
    exact ⟨_, exec_sample_due hh hdue, hports, hstate⟩
  · have htold : (s.beginEvent dt).sampleTells m = true := by simpa [htells] using hloud
    have hend : (s.beginEvent dt).sampleEvent m = u.finish := by
      simp only [State.sampleEvent, htold, if_true]
      rfl
    have hnext : exec (.lampCurrentSample dt m) s = .next u.finish := hend ▸ exec_sample_due hh hdue
    refine ⟨?_, fun t ht x => ?_⟩
    · have hplace := takesPlace_of (op := fun u => u.lampSample m) hnext (by rw [lampSample_eq]; rfl)
      rwa [lampSample_frame, beginEvent_frame] at hplace
    · obtain rfl : _ = t := by injection hnext.symm.trans ht
      exact ⟨finish_head_failed u x, finish_head_lit u x⟩
  · rw [exec_sample_due hh hdue]
    exact event_sample_due (fun v => latchedNow v (v.sampleLamps m) h l) hh hdue (lampSample_latchedNow h l ▸ hlatch)
  · rw [exec_sample_due hh hdue]
    exact event_sample_due (fun v => strayChanged v (v.sampleLamps m) h l) hh hdue (lampSample_strayChanged h l ▸ hstray)

end Sys2Proof.Machine.SignalHeads

/-! ## The books: the clock, the accounting unit and the reservations that lockage records hold

The bounds of the retained blocks (R151, R167, R171, R177, R179) hang on three things: the time of day, the accounting unit, and
whether each chamber's lockage record holds a reservation. Of all that happens in the blocks only five kinds of entry write them. -/

namespace Sys2Proof.Machine.RetainedBlocks

/-- A chamber's lockage record, when it has one, holds a reservation (R126). -/
def reserves : Option LockageRecord → Bool
  | some l => l.reservation ≠ .none
  | none => false

/-- What the bounds of the retained blocks hang on. -/
structure Books where
  time : LockTime
  acct : AccountingUnit
  held : PerChamber Bool

/-- The books of a state. -/
def books (s : State) : Books := ⟨s.lockTime, s.acct, s.seqs.map fun q => reserves q.lockage⟩

/-! ### The entries -/

/-- One entry in the books: a lockage reserves a place in the journal (R172), gives it back (R173) or posts its charge record to it
(R174); a new lockage takes its serial (R179); a lockage record with or without a reservation goes (R58, R69). -/
inductive Entry : Books → Books → Prop where
  | reserve (b : Books) (c : Chamber) (hfree : 1 ≤ b.acct.free) :
    Entry b { b with acct := { b.acct with reservations := b.acct.reservations + 1 }, held := b.held.set c true }
  | release (b : Books) (c : Chamber) (hheld : b.held.get c = true) :
    Entry b { b with acct := b.acct.release, held := b.held.set c false }
  | post (b : Books) (c : Chamber) (r : ChargeRecord) (hheld : b.held.get c = true) :
    Entry b { b with acct := b.acct.post r, held := b.held.set c false }
  | serial (b : Books) : Entry b { b with acct := { b.acct with serial := nextSerial b.acct.serial } }
  | discard (b : Books) (c : Chamber) : Entry b { b with held := b.held.set c false }

/-- The books of `t` come from those of `s` by entries alone. -/
def Entered (s t : State) : Prop := Relation.ReflTransGen Entry (books s) (books t)

theorem Entered.refl (s : State) : Entered s s := Relation.ReflTransGen.refl

theorem Entered.trans {s t u : State} (h : Entered s t) (k : Entered t u) : Entered s u := Relation.ReflTransGen.trans h k

theorem Entered.of_eq {s t : State} (h : books t = books s) : Entered s t := by
  rw [Entered, h]

theorem Entered.of_entry {s t : State} (h : Entry (books s) (books t)) : Entered s t := Relation.ReflTransGen.single h

theorem foldl_entered {α : Type} {g : State → α → State} (h : ∀ s x, Entered s (g s x)) (l : List α) (s : State) :
    Entered s (l.foldl g s) := by
  induction l generalizing s with
  | nil => exact .refl s
  | cons x l ih => exact (h s x).trans (ih _)

/-! ### Every entry keeps the bounds -/

/-- `AccountsBounded`, said of the accounting unit alone. -/
def UnitBounded (u : AccountingUnit) : Prop :=
  u.accounts.length = accountTableSize ∧ (∀ a ∈ u.accounts, a.bounded) ∧ 1 ≤ u.period ∧ u.period ≤ 65535 ∧
    u.serial ≤ 4294967295

theorem accountsBounded_iff (s : State) : AccountsBounded s ↔ UnitBounded s.acct := Iff.rfl

/-- `JournalSound`, said of the books. -/
def BooksSound (b : Books) : Prop :=
  (b.held.get .A).toNat + (b.held.get .B).toNat ≤ b.acct.reservations ∧
    b.acct.reservations + b.acct.journal.length ≤ journalSize

theorem holdsReservation_eq (s : State) (c : Chamber) : s.holdsReservation c = (books s).held.get c := by
  simp only [books, PerChamber.get_map]
  rfl

theorem journalSound_iff (s : State) : JournalSound s ↔ BooksSound (books s) := by
  simp only [JournalSound, BooksSound, State.heldReservations, holdsReservation_eq]
  rfl

theorem modify_bounded {l : List Account} {g : Account → Account} (hl : ∀ a ∈ l, a.bounded)
    (hg : ∀ a, a.bounded → (g a).bounded) (n : Nat) : ∀ a ∈ l.modify n g, a.bounded := by
  intro a ha
  obtain ⟨i, hi⟩ := List.mem_iff_getElem?.mp ha
  rw [List.getElem?_modify] at hi
  obtain ⟨x, hx, rfl⟩ := Option.map_eq_some_iff.mp hi
  have hbounded := hl x (List.mem_of_getElem? hx)
  split_ifs
  · exact hg x hbounded
  · exact hbounded

theorem charge_bounded {u : AccountingUnit} (h : UnitBounded u) (n amount : Nat) (counted : Bool) (t : LockTime) :
    UnitBounded (u.charge n amount counted t) := by
  obtain ⟨hlength, haccounts, hrest⟩ := h
  exact ⟨(List.length_modify ..).trans hlength,
    modify_bounded haccounts (fun a ha => a.add_bounded amount counted t ha.2) n, hrest⟩

theorem post_bounded {u : AccountingUnit} (h : UnitBounded u) (r : ChargeRecord) : UnitBounded (u.post r) := by
  refine charge_bounded ?_ ..
  refine List.foldlRecOn r.entries _ h fun v hv e _ => ?_
  unfold AccountingUnit.chargeEntry
  split_ifs
  · exact hv
  · exact charge_bounded hv ..

theorem nextSerial_le {n : Nat} (h : n ≤ 4294967295) : nextSerial n ≤ 4294967295 := by
  unfold nextSerial
  split_ifs <;> omega

/-- A posting moves one place of the journal from the reservations to the finalized records (R174). -/
theorem chargeEntries_journal (t : LockTime) (es : List ChargeEntry) (u : AccountingUnit) :
    (es.foldl (AccountingUnit.chargeEntry t) u).journal = u.journal ∧
      (es.foldl (AccountingUnit.chargeEntry t) u).reservations = u.reservations := by
  induction es generalizing u with
  | nil => exact ⟨rfl, rfl⟩
  | cons e es ih =>
    refine (ih _).imp (·.trans ?_) (·.trans ?_) <;> unfold AccountingUnit.chargeEntry <;> split_ifs <;> rfl

theorem post_journal (u : AccountingUnit) (r : ChargeRecord) :
    (u.post r).journal.length = u.journal.length + 1 ∧ (u.post r).reservations = u.reservations - 1 := by
  obtain ⟨hjournal, hreservations⟩ := chargeEntries_journal r.finalized r.entries (u.append r)
  exact ⟨(congrArg List.length hjournal).trans (by simp [AccountingUnit.append]), hreservations⟩

theorem Entry.time_eq {b d : Books} (h : Entry b d) : d.time = b.time := by
  cases h <;> rfl

theorem Entry.unitBounded {b d : Books} (h : Entry b d) (hb : UnitBounded b.acct) : UnitBounded d.acct := by
  cases h with
  | reserve | release | discard => exact hb
  | post c r => exact post_bounded hb r
  | serial =>
    obtain ⟨hlength, haccounts, hlow, hhigh, hserial⟩ := hb
    exact ⟨hlength, haccounts, hlow, hhigh, nextSerial_le hserial⟩

/-- The number of reservations held after a record has changed. -/
theorem held_set (p : PerChamber Bool) (c : Chamber) (v : Bool) :
    ((p.set c v).get .A).toNat + ((p.set c v).get .B).toNat + (p.get c).toNat =
      (p.get .A).toNat + (p.get .B).toNat + v.toNat := by
  cases c <;> simp [PerChamber.get, PerChamber.set] <;> omega

/-- A place is reserved while one is free, and given back or filled by a record that held it, so none is lost or counted twice. -/
theorem Entry.booksSound {b d : Books} (h : Entry b d) (hb : BooksSound b) : BooksSound d := by
  obtain ⟨hheld, hsize⟩ := hb
  cases h with
  | reserve c hfree =>
    have hcount := held_set b.held c true
    have hroom : 1 ≤ journalSize - b.acct.reservations - b.acct.journal.length := hfree
    simp only [BooksSound, Bool.toNat_true] at *
    omega
  | release c hc =>
    have hcount := held_set b.held c false
    simp only [BooksSound, AccountingUnit.release, hc, Bool.toNat_true, Bool.toNat_false] at *
    omega
  | post c r hc =>
    have hcount := held_set b.held c false
    obtain ⟨hjournal, hreservations⟩ := post_journal b.acct r
    simp only [BooksSound, hjournal, hreservations, hc, Bool.toNat_true, Bool.toNat_false] at *
    omega
  | serial => exact ⟨hheld, hsize⟩
  | discard c =>
    have hcount := held_set b.held c false
    simp only [BooksSound, Bool.toNat_false] at *
    omega

/-- `t` keeps each bound of the retained blocks that `s` has. -/
structure Keeps (s t : State) : Prop where
  clock : ClockInRange s → ClockInRange t
  accounts : AccountsBounded s → AccountsBounded t
  journal : JournalSound s → JournalSound t

theorem Keeps.refl (s : State) : Keeps s s := ⟨id, id, id⟩

theorem Keeps.trans {s t u : State} (h : Keeps s t) (k : Keeps t u) : Keeps s u :=
  ⟨fun hs => k.clock (h.clock hs), fun hs => k.accounts (h.accounts hs), fun hs => k.journal (h.journal hs)⟩

/-- What every single entry keeps, all of them keep. -/
theorem Entered.induct {s t : State} (P : Books → Prop) (step : ∀ b d, Entry b d → P b → P d) (h : Entered s t)
    (hs : P (books s)) : P (books t) := by
  unfold Entered at h
  generalize books t = d at h
  induction h with
  | refl => exact hs
  | tail _ he ih => exact step _ _ he ih

/-- The bounds hang on nothing but the books. -/
theorem Entered.keeps {s t : State} (h : Entered s t) : Keeps s t := by
  have htime : t.lockTime = s.lockTime :=
    h.induct (fun b => b.time = s.lockTime) (fun _ _ he hb => he.time_eq.trans hb) rfl
  refine ⟨fun hs => ?_, fun hs => ?_, fun hs => ?_⟩
  · rwa [ClockInRange, htime]
  · rw [accountsBounded_iff] at hs ⊢
    exact h.induct (fun b => UnitBounded b.acct) (fun _ _ he => he.unitBounded) hs
  · rw [journalSound_iff] at hs ⊢
    exact h.induct BooksSound (fun _ _ he => he.booksSound) hs

theorem Keeps.of_eq {s t : State} (h : books t = books s) : Keeps s t := (Entered.of_eq h).keeps

theorem foldl_keeps {α : Type} {g : State → α → State} (h : ∀ s x, Keeps s (g s x)) (l : List α) (s : State) :
    Keeps s (l.foldl g s) := by
  induction l generalizing s with
  | nil => exact .refl s
  | cons x l ih => exact (h s x).trans (ih _)

end Sys2Proof.Machine.RetainedBlocks

/-! ## Operations that leave the books -/

namespace Sys2Proof.Machine.RetainedBlocks

/-! ### Updates of one record -/

section
variable (s : State)

@[simp] theorem modEvent_books (g : Event → Event) : books (s.modEvent g) = books s := rfl
@[simp] theorem produce_books (p : Produced) : books (s.produce p) = books s := rfl
@[simp] theorem report_books (r : Report) : books (s.report r) = books s := rfl
@[simp] theorem setAuth_books (c : Chamber) (a : Authority) : books (s.setAuth c a) = books s := rfl
@[simp] theorem setClaim_books (c : Chamber) (k : Option CrossClaim) : books (s.setClaim c k) = books s := rfl
@[simp] theorem freeLine_books : books s.freeLine = books s := rfl

/-- Writing a sequencer writes whether its record holds a reservation, and nothing else in the books. -/
theorem modSeq_books (c : Chamber) (g : Sequencer → Sequencer) :
    books (s.modSeq c g) = { books s with held := (books s).held.set c (reserves (g (s.seq c)).lockage) } := by
  cases c <;> rfl

theorem modSeq_books_of_reserves (c : Chamber) (g : Sequencer → Sequencer)
    (h : reserves (g (s.seq c)).lockage = reserves (s.seq c).lockage) : books (s.modSeq c g) = books s := by
  rw [modSeq_books, h]
  cases c <;> rfl

@[simp] theorem modSeq_books_of_lockage (c : Chamber) (g : Sequencer → Sequencer) (h : ∀ q, (g q).lockage = q.lockage) :
    books (s.modSeq c g) = books s :=
  modSeq_books_of_reserves s c g (by rw [h])

@[simp] theorem modLockage_books_of_reservation (c : Chamber) (g : LockageRecord → LockageRecord)
    (h : ∀ l, (g l).reservation = l.reservation) : books (s.modLockage c g) = books s := by
  refine modSeq_books_of_reserves s c _ ?_
  cases hl : (s.seq c).lockage <;> simp [reserves, h]

end

theorem foldl_books {α : Type} {g : State → α → State} (h : ∀ s x, books (g s x) = books s) (l : List α) (s : State) :
    books (l.foldl g s) = books s := by
  induction l generalizing s with
  | nil => rfl
  | cons x l ih => rw [List.foldl_cons, ih, h]

/-! ### Requests to devices, and the drive line -/

section
variable (s : State) (d : Device)

theorem stampClosed_books (was : Bool) : books (s.stampClosed d was) = books s := by
  unfold State.stampClosed
  dsimp only
  split_ifs <;> rfl

@[simp] theorem updDev_books (g : DeviceRecord → DeviceRecord) : books (s.updDev d g) = books s :=
  stampClosed_books _ d _

@[simp] theorem setLimit_books (v : Filtered) : books (s.setLimit d v) = books s := stampClosed_books _ d _

@[simp] theorem startRequest_books (t : Target) : books (s.startRequest d t) = books s := by
  rcases startRequest_cases s d t with ⟨h, -⟩ | ⟨h, -⟩ | ⟨h, -⟩ <;> rw [h] <;> rfl

@[simp] theorem stopRequest_books : books (s.stopRequest d) = books s := by
  rcases stopRequest_cases s d with ⟨h, -⟩ | ⟨h, -⟩ | ⟨h, -⟩ <;> rw [h] <;> rfl

@[simp] theorem statusQuery_books : books (s.statusQuery d) = books s := by
  rcases statusQuery_cases s d with ⟨h, -⟩ | ⟨h, -⟩ | ⟨h, -⟩ <;> rw [h] <;> rfl

@[simp] theorem stopChamber_books (c : Chamber) : books (s.stopChamber c) = books s := foldl_books stopRequest_books _ s

@[simp] theorem faultDevice_books (k : FaultKind) : books (s.faultDevice d k) = books s := by
  unfold State.faultDevice
  dsimp only
  split_ifs <;> simp

@[simp] theorem queryTail_books : books (s.queryTail d) = books s := by
  unfold State.queryTail
  split_ifs <;> simp

@[simp] theorem barOrder_books (c : Chamber) : books (s.barOrder c) = books s := by
  have hmoving (s : State) (d : Device) : books (s.stopMoving d) = books s := by
    unfold State.stopMoving
    dsimp only
    split_ifs <;> simp
  exact (foldl_books hmoving _ _).trans (foldl_books (fun s d => updDev_books s d DeviceRecord.withdrawn) _ s)

@[simp] theorem takeNextStart_books : books (s.takeNextStart d) = books s := by
  unfold State.takeNextStart
  split
  · rfl
  · dsimp only
    split_ifs <;> simp

@[simp] theorem applyFinding_books (f : Finding) : books (s.applyFinding d f) = books s := by
  unfold State.applyFinding
  dsimp only
  split_ifs
  · rfl
  · cases f <;> simp
  · cases f <;> simp

@[simp] theorem statusApplied_books (e : EndPosition) (o g : Bool) : books (s.statusApplied d e o g) = books s := by
  simp [State.statusApplied]

@[simp] theorem statusUnanswered_books : books (s.statusUnanswered d) = books s := by
  unfold State.statusUnanswered
  dsimp only
  split_ifs <;> simp

@[simp] theorem travelExpired_books : books (s.travelExpired d) = books s := by
  unfold State.travelExpired
  dsimp only
  split_ifs <;> simp

@[simp] theorem limitChanged_books (v : Filtered) : books (s.limitChanged d v) = books s := by
  have htrips : books ((s.setLimit d v).followTrips s) = books s := setLimit_books s d v
  unfold State.limitChanged State.uncommandedCheck
  dsimp only
  split_ifs <;> simp [htrips]

@[simp] theorem dispatch_books : books s.dispatch = books s := by rw [dispatch_eq]; rfl
@[simp] theorem lightHeads_books : books s.lightHeads = books s := rfl
@[simp] theorem finishQuiet_books : books s.finishQuiet = books s := by rw [finishQuiet_eq]; rfl

end

/-! ### Vessels -/

section
variable (s : State) (c : Chamber)

@[simp] theorem dequeue_books (h : Nat) : books (s.dequeue h) = books s := rfl
@[simp] theorem modVessel_books (h : Nat) (g : Vessel → Vessel) : books (s.modVessel h g) = books s := rfl
@[simp] theorem returnVessel_books (v : Vessel) : books (s.returnVessel v) = books s := rfl
@[simp] theorem deleteVessel_books (h : Nat) : books (s.deleteVessel h) = books s := rfl
@[simp] theorem setStack_books (l : List SavedPlan) : books (s.setStack c l) = books s := rfl

@[simp] theorem takeVessel_books (v : Vessel) : books (s.takeVessel c v) = books s := by
  simp [State.takeVessel]

@[simp] theorem leavePlan_books (v : Vessel) : books (s.leavePlan c v) = books s := by
  simp [State.leavePlan]

@[simp] theorem board_books (h : Nat) : books (State.board c s h) = books s := rfl

@[simp] theorem giveBack_books (h : Nat) : books (State.giveBack c s h) = books s := by
  unfold State.giveBack
  split <;> simp

@[simp] theorem abandonPlan_books : books (s.abandonPlan c) = books s := by
  refine foldl_books (fun s h => ?_) _ s
  unfold State.abandonOne
  split
  · rfl
  · split_ifs <;> rfl

@[simp] theorem deletePlan_books : books (s.deletePlan c) = books s := foldl_books deleteVessel_books _ s

@[simp] theorem pushPlan_books (l : LockageRecord) : books (s.pushPlan c l) = books s := by
  unfold State.pushPlan
  dsimp only
  split_ifs
  · rfl
  · exact foldl_books (g := State.saveOne c) (fun _ _ => rfl) _ s

/-! ### The sequencer -/

@[simp] theorem endExchange_books : books s.endExchange = books s :=
  (startRequest_books _ .xv .toClose).trans rfl

@[simp] theorem withdrawClaim_books : books (s.withdrawClaim c) = books s := by
  unfold State.withdrawClaim
  dsimp only
  split_ifs <;> simp

@[simp] theorem keepClaim_books (n : Need) : books (s.keepClaim c n) = books s := rfl

@[simp] theorem raise_books (k : FaultKind) (d : Option Device) : books (s.raise c k d) = books s := rfl

@[simp] theorem levelLostCheck_books : books (s.levelLostCheck c) = books s := by
  unfold State.levelLostCheck
  split_ifs <;> simp

@[simp] theorem raiseStanding_books (d : Device) : books (s.raiseStanding c d) = books s := by
  unfold State.raiseStanding
  split <;> rfl

@[simp] theorem standingCheck_books : books (s.standingCheck c) = books s :=
  foldl_books (fun s d => raiseStanding_books s c d) _ s

@[simp] theorem levelSettings_books (e : End) : books (s.levelSettings c e) = books s :=
  modSeq_books_of_lockage s c _ fun _ => rfl

theorem markLevel_reservation (l : LockageRecord) (v : Option Int) : (l.markLevel v).reservation = l.reservation := by
  unfold LockageRecord.markLevel
  split_ifs <;> rfl

@[simp] theorem entrySettings_books (p : Phase) : books (s.entrySettings c p) = books s := by
  unfold State.entrySettings
  split
  · rfl
  · split
    · exact modSeq_books_of_lockage s c _ fun _ => rfl
    · simp
    · dsimp only
      split_ifs <;> simp [markLevel_reservation]
    · rfl

@[simp] theorem changePhase_books (p : Phase) : books (s.changePhase c p) = books s := by
  simp [State.changePhase]

@[simp] theorem enterPhase_books (p : Phase) : books (s.enterPhase c p) = books s := by
  have hplain (s : State) (p : Phase) : books (s.enterPlain c p) = books s := by
    simp [State.enterPlain]
  unfold State.enterPhase
  split_ifs
  · dsimp only
    split <;> simp [hplain]
  · exact hplain s p

@[simp] theorem levelOnset_books : books (s.levelOnset c) = books s := by
  unfold State.levelOnset
  dsimp only
  split_ifs <;> simp

@[simp] theorem leaveFor_books (p : Phase) : books (s.leaveFor c p) = books s := by
  unfold State.leaveFor
  dsimp only
  split_ifs <;> simp

@[simp] theorem addReason_books (r : HoldReason) : books (s.addReason c r) = books s := by
  simp [State.addReason]

@[simp] theorem enterHold_books (r : HoldReason) : books (s.enterHold c r) = books s := by
  unfold State.enterHold State.holdStops
  split_ifs <;> simp

@[simp] theorem holdOrder_books (r : HoldReason) : books (s.holdOrder c r) = books s := by
  unfold State.holdOrder
  split
  · split_ifs <;> simp
  · simp
  · rfl
  · rfl
  · simp

@[simp] theorem clearStepWait_books : books (s.clearStepWait c) = books s := modSeq_books_of_lockage s c _ fun _ => rfl

@[simp] theorem setStepWait_books (d : Device) (t : Target) : books (s.setStepWait c d t) = books s := by
  simp [State.setStepWait]

@[simp] theorem makeRequest_books (d : Device) (t : Target) : books (s.makeRequest c d t) = books s := by
  unfold State.makeRequest State.markStart
  split_ifs <;> simp

@[simp] theorem releaseStep_books : books (s.releaseStep c) = books s := by
  unfold State.releaseStep
  split <;> simp

/-! ### Faults -/

@[simp] theorem safingRequests_books : books (s.safingRequests c) = books s := by
  have hsluice (s : State) (e : End) : books (s.safeSluice c e) = books s := by
    unfold State.safeSluice
    dsimp only
    split_ifs <;> simp
  simp [State.safingRequests, State.safeGate, hsluice]

@[simp] theorem endSafing_books : books (s.endSafing c) = books s := by
  simp [State.endSafing]

@[simp] theorem moveOnFault_books (k : FaultClass) : books (s.moveOnFault c k) = books s := by
  unfold State.moveOnFault State.enterSafing State.lockOut
  split_ifs
  · rfl
  · split
    · dsimp only
      split_ifs <;> simp
    · simp
    · rfl

@[simp] theorem takeFault_books (f : FaultEntry) : books (s.takeFault c f) = books s := by
  simp [State.takeFault]

@[simp] theorem takeXv_books (k : FaultKind) (t : LockTime) : books (s.takeXv k t c) = books s := by
  unfold State.takeXv State.takeConflict
  split_ifs <;> simp

@[simp] theorem queriedCheck_books (d : Device) : books (s.queriedCheck d) = books s := by
  unfold State.queriedCheck
  split
  · rfl
  · split
    · split_ifs <;> simp
    · rfl

/-! ### The cross arbiter -/

@[simp] theorem releaseChamber_books : books (s.release c) = books s := by
  unfold State.release
  split_ifs <;> simp

@[simp] theorem dropClaim_books : books (s.dropClaim c) = books s := by
  simp [State.dropClaim]

@[simp] theorem makeGrant_books : books (s.makeGrant c) = books s := by
  unfold State.makeGrant
  rw [startRequest_books]
  exact foldl_books (fun s c => by simp) _ _

theorem crossOutcome_reservation (l : LockageRecord) (accepted : Bool) (serial : Nat) (marks : Option (PerChamber Int)) :
    (l.crossOutcome accepted serial marks).reservation = l.reservation := by
  unfold LockageRecord.crossOutcome
  split_ifs <;> rfl

@[simp] theorem exchangeOver_books : books s.exchangeOver = books s := by
  unfold State.exchangeOver
  split
  · rfl
  · refine (foldl_books releaseChamber_books _ _).trans ?_
    exact foldl_books (fun s c => modLockage_books_of_reservation s c _ fun l => crossOutcome_reservation l ..) _ s

@[simp] theorem valveFaulted_books (k : FaultKind) (t : LockTime) : books (s.valveFaulted k t) = books s := by
  unfold State.valveFaulted
  dsimp only
  split_ifs <;> simp [foldl_books fun s c => takeXv_books s c k t]

@[simp] theorem takeReport_books (r : Report) : books (s.takeReport r) = books s := by
  unfold State.takeReport
  split
  · simp
  · simp
  · simp
  · simp
  · split_ifs
    · exact foldl_books (fun s c => takeXv_books s c _ _) _ s
    · rfl

@[simp] theorem watchHead_books : books s.watchHead = books s := by
  unfold State.watchHead
  split
  · rw [apply_ite books, endExchange_books, ite_self]
    rfl
  · rfl

@[simp] theorem valveOpens_books : books s.valveOpens = books s := by
  have htimer (s : State) (c : Chamber) : books (s.startCrossTimer c) = books s := by
    unfold State.startCrossTimer
    split_ifs
    · exact modSeq_books_of_lockage s c _ fun _ => rfl
    · rfl
  unfold State.valveOpens
  split
  · exact foldl_books htimer _ _
  · rfl
  · rfl

@[simp] theorem waitExpired_books : books (s.waitExpired c) = books s := by
  unfold State.waitExpired
  dsimp only
  split_ifs <;> simp

/-! ### Authority -/

@[simp] theorem changeAuthority_books (a : Authority) (k : AuthorityCause) : books (s.changeAuthority c a k) = books s := by
  unfold State.changeAuthority
  split_ifs <;> rfl

@[simp] theorem gained_books : books (s.gained c) = books s := modSeq_books_of_lockage s c _ fun _ => rfl

@[simp] theorem lost_books : books (s.lost c) = books s := by
  unfold State.lost
  split_ifs <;> simp

@[simp] theorem handOver_books (o : Operator) : books (s.handOver c o) = books s := changeAuthority_books ..

@[simp] theorem loseHolder_books (k : AuthorityCause) : books (s.loseHolder c k) = books s := by
  simp [State.loseHolder]

@[simp] theorem claimBy_books (o : Operator) : books (s.claimBy c o) = books s := by
  unfold State.claimBy State.gainHolder
  dsimp only
  split
  · simp
  · split_ifs <;> simp

@[simp] theorem dropPending_books (k : AuthorityCause) : books (s.dropPending c k) = books s := by
  unfold State.dropPending
  dsimp only
  split_ifs <;> simp

variable {s c} in
theorem releaseBy_books {t : State} {o : Operator} (h : s.releaseBy? c o = some t) : books t = books s := by
  have hholder : books (s.releaseByHolder c) = books s := by
    unfold State.releaseByHolder
    dsimp only
    split
    · simp
    · split_ifs <;> simp
  unfold State.releaseBy? at h
  dsimp only at h
  split_ifs at h <;> cases h
  · exact hholder
  · simp

@[simp] theorem seizeBy_books : books (s.seizeBy c) = books s := by
  unfold State.seizeBy
  dsimp only
  split_ifs <;> simp

@[simp] theorem holderSilent_books : books (s.holderSilent c) = books s := by
  unfold State.holderSilent
  dsimp only
  split <;> simp

/-! ### Answers of the drives -/

@[simp] theorem sillBreak_books (e : End) : books (s.sillBreak c e) = books s := by
  unfold State.sillBreak
  dsimp only
  split_ifs <;> simp

@[simp] theorem afterAccept_books (d : Device) (t : Target) : books (s.afterAccept d t) = books s := by
  have htimer (c : Chamber) (e : End) : books (s.startLevelTimer c e) = books s := by
    unfold State.startLevelTimer
    split_ifs
    · exact modSeq_books_of_lockage s c _ fun _ => rfl
    · rfl
  unfold State.afterAccept
  split
  · split_ifs <;> simp
  · exact htimer _ _
  · simp
  · rfl

theorem answered_books (d : Device) (k : Task) (a : DriveAnswer) : books (s.answered d k a) = books s := by
  unfold State.answered
  split
  · simp [State.startAccepted]
  · simp [State.startRejected]
  · simp [State.stopAccepted]
  · simp [State.stopFailed]
  · dsimp only
    split_ifs <;> simp
  · rfl

theorem unanswered_books (d : Device) (k : Task) : books (s.unanswered d k) = books s := by
  cases k with
  | start t => simp [State.unanswered, State.startUnanswered]
  | stop => simp [State.unanswered, State.stopFailed]
  | status =>
    unfold State.unanswered
    dsimp only
    split_ifs <;> simp

end

end Sys2Proof.Machine.RetainedBlocks

/-! ## Operations that enter in the books -/

namespace Sys2Proof.Machine.RetainedBlocks

/-! ### Reservations (R172, R173, R174) -/

theorem held_of_lockage {s : State} {c : Chamber} {l : LockageRecord} (hl : (s.seq c).lockage = some l) :
    (books s).held.get c = decide (l.reservation ≠ .none) := by
  have hrecord : (s.seqs.get c).lockage = some l := hl
  simp [books, reserves, hrecord]

theorem modLockage_books_of_lockage {s : State} {c : Chamber} {l : LockageRecord} (g : LockageRecord → LockageRecord)
    (hl : (s.seq c).lockage = some l) :
    books (s.modLockage c g) = { books s with held := (books s).held.set c (decide ((g l).reservation ≠ .none)) } := by
  rw [State.modLockage, modSeq_books, hl]
  rfl

@[simp] theorem journalLowCheck_books (s : State) : books s.journalLowCheck = books s := by
  unfold State.journalLowCheck
  split_ifs <;> rfl

@[simp] theorem journalLowCheck_seqs (s : State) : s.journalLowCheck.seqs = s.seqs := by
  unfold State.journalLowCheck
  split_ifs <;> rfl

/-- A granted reservation found a free place, and is counted (R172). -/
theorem reserve_books {s t : State} {emergency : Bool} (h : s.reserve? emergency = some t) :
    1 ≤ s.acct.free ∧ t.seqs = s.seqs ∧
      books t = { books s with acct := { s.acct with reservations := s.acct.reservations + 1 } } := by
  obtain ⟨hfree, hgrant⟩ := Option.ite_none_right_eq_some.mp h
  cases hgrant
  refine ⟨?_, journalLowCheck_seqs _, journalLowCheck_books _⟩
  split_ifs at hfree <;> omega

/-- Test 7 writes the reservation that it makes into the chamber's record (R125, R126). -/
theorem recordSpace_entered {s t : State} {c : Chamber} {l : LockageRecord} {k : VesselClass}
    (hl : (s.seq c).lockage = some l) (h : s.recordSpace? c l k = some t) : Entered s t := by
  unfold State.recordSpace? at h
  split at h
  · cases h
    exact .refl s
  · obtain ⟨u, hu, rfl⟩ := Option.map_eq_some_iff.mp h
    obtain ⟨hfree, hseqs, hbooks⟩ := reserve_books hu
    have hrecord : (u.seq c).lockage = some l := by rwa [State.seq, hseqs]
    have hreserved : (if k = .emergency then Reservation.emergency else .normal) ≠ .none := by
      split_ifs <;> decide
    refine .of_entry ?_
    rw [modLockage_books_of_lockage _ hrecord, hbooks, decide_eq_true hreserved]
    exact .reserve (books s) c hfree

theorem tryTake_entered {s t : State} {c : Chamber} {v : Vessel} (h : s.tryTake c v = .taken t) : Entered s t := by
  unfold State.tryTake at h
  split at h
  · cases h
  · next l hl =>
    split at h
    · cases h
    · split at h
      · cases h
      · next hspace =>
        cases h
        exact (recordSpace_entered hl hspace).trans (.of_eq (takeVessel_books ..))

theorem releaseReservation_entered (s : State) (c : Chamber) : Entered s (s.releaseReservation c) := by
  unfold State.releaseReservation
  split
  · exact .refl s
  · next l hl =>
    split_ifs with hnone
    · exact .refl s
    · have hrecord : ((s.modAcct AccountingUnit.release).seq c).lockage = some l := hl
      refine .of_entry ?_
      rw [modLockage_books_of_lockage _ hrecord]
      exact .release (books s) c ((held_of_lockage hl).trans (decide_eq_true hnone))

theorem releaseIfEmpty_entered (s : State) (c : Chamber) : Entered s (s.releaseIfEmpty c) := by
  unfold State.releaseIfEmpty
  split
  · split_ifs
    · exact releaseReservation_entered s c
    · exact .refl s
  · exact .refl s

/-- The hand-over posts the charge record to the place that the lockage holds (R57, R160). -/
theorem finalize_entered (s : State) (c : Chamber) : Entered s (s.finalize c) := by
  unfold State.finalize
  split
  · exact .refl s
  · next l hl =>
    split_ifs with hnone
    · exact .refl s
    · generalize s.chargeRecord c l (s.planVessels l) = r
      have hrecord : ((s.post r).seq c).lockage = some l := by
        rw [State.post, State.seq, journalLowCheck_seqs]
        exact hl
      have hbooks : books (s.post r) = { books s with acct := s.acct.post r } := journalLowCheck_books _
      refine .of_entry ?_
      rw [modLockage_books_of_lockage _ hrecord, hbooks]
      exact .post (books s) c r ((held_of_lockage hl).trans (decide_eq_true hnone))

/-! ### Formation (R47, R128, R137) -/

theorem formPlan_entered (s : State) (c : Chamber) (d : Direction) (saved : List Nat) : Entered s (s.formPlan c d saved) := by
  have hrecheck (s : State) (h : Nat) : Entered s (State.recheckOne c s h) := by
    unfold State.recheckOne
    split
    · exact .refl s
    · split
      · next ht => exact tryTake_entered ht
      · exact .of_eq rfl
  have hwalk (s : State) (h : Nat) : Entered s (State.walkOne c s h) := by
    unfold State.walkOne
    split
    · exact .refl s
    · split
      · next ht => exact tryTake_entered ht
      · exact .of_eq rfl
  exact (foldl_entered hrecheck saved s).trans (foldl_entered hwalk _ _)

/-- A new lockage takes the next serial, and its record holds no reservation yet (R47, R179). -/
theorem enterForming_entered (s : State) (c : Chamber) (d : Direction) (saved : List Nat) :
    Entered s (s.enterForming c d saved) := by
  unfold State.enterForming
  dsimp only
  refine .trans ?_ (formPlan_entered _ c d saved)
  have hserial : Entered s ((s.modAcct fun u => { u with serial := (s.newRecord d).serial }).changePhase c .forming) := by
    refine .of_entry ?_
    rw [changePhase_books]
    exact .serial (books s)
  refine hserial.trans (.of_entry ?_)
  rw [modSeq_books]
  exact .discard _ c

theorem enterIdle_entered (s : State) (c : Chamber) : Entered s (s.enterIdle c) := by
  have hidle : Entered s ((s.changePhase c .idle).modSeq c fun q => { q with lockage := none, holds := .empty, resume := none }) := by
    refine .of_entry ?_
    rw [modSeq_books, changePhase_books]
    exact .discard (books s) c
  unfold State.enterIdle
  dsimp only
  split
  · exact hidle
  · exact (hidle.trans (.of_eq (setStack_books _ c _))).trans (enterForming_entered ..)

theorem closeList_entered (s : State) (c : Chamber) (handles : List Nat) : Entered s (s.closeList c handles) := by
  unfold State.closeList
  dsimp only
  have hgiven : Entered s ((handles.foldl (State.giveBack c) s).releaseIfEmpty c) :=
    (Entered.of_eq (foldl_books (giveBack_books · c) handles s)).trans (releaseIfEmpty_entered ..)
  refine hgiven.trans (.of_eq ?_)
  simp [foldl_books (board_books · c)]

theorem withdraw_entered (s : State) (v : Vessel) : Entered s (s.withdraw v) := by
  unfold State.withdraw
  split
  · next c _ => exact ((Entered.of_eq (leavePlan_books s c v)).trans (releaseIfEmpty_entered _ c)).trans (.of_eq rfl)
  · exact .of_eq rfl
  · exact .of_eq rfl

theorem abandon_entered (s : State) (c : Chamber) : Entered s (s.abandon c) :=
  ((Entered.of_eq (abandonPlan_books s c)).trans (releaseReservation_entered _ c)).trans (enterIdle_entered _ c)

theorem advancePhase_entered (s : State) (c : Chamber) (p : Phase) : Entered s (s.advancePhase c p) := by
  unfold State.advancePhase
  split_ifs
  · exact (finalize_entered s c).trans (.of_eq (enterPhase_books ..))
  · exact .of_eq (enterPhase_books ..)

/-! ### Emergency handling (R132 to R135) -/

theorem preempt_entered (s : State) (c : Chamber) (l : LockageRecord) (v : Vessel) : Entered s (s.preempt c l v) := by
  have hstops (s : State) : books (s.stopQueued c) = books s := by
    refine foldl_books (fun s d => ?_) _ s
    split_ifs <;> simp
  have hreleased := (Entered.of_eq (pushPlan_books s c l)).trans (releaseReservation_entered _ c)
  unfold State.preempt
  dsimp only
  refine (hreleased.trans (.of_eq ?_)).trans (enterForming_entered ..)
  simp [hstops]

theorem wayAt_entered {s t : State} {v : Vessel} {w : Way} {c : Chamber} (h : s.wayAt? v w c = some t) : Entered s t := by
  cases w with
  | join =>
    change s.join? c v = some t at h
    unfold State.join? at h
    split_ifs at h
    split at h
    · next ht =>
      cases h
      exact tryTake_entered ht
    · cases h
  | start =>
    change s.emergencyStart? c v = some t at h
    unfold State.emergencyStart? at h
    split_ifs at h
    cases h
    exact enterForming_entered ..
  | preempt =>
    change s.preempt? c v = some t at h
    unfold State.preempt? at h
    split at h
    · split_ifs at h
      cases h
      exact preempt_entered ..
    · cases h

theorem handleEmergency_entered (s : State) (h : Nat) : Entered s (s.handleEmergency h) := by
  refine foldl_entered (fun s w => foldl_entered (fun s c => ?_) _ s) _ s
  rcases tryWay_cases w h s c with hsame | ⟨v, -, -, -, hway⟩
  · rw [hsame]
    exact .refl s
  · exact wayAt_entered hway

theorem endStartUp_entered (s : State) : Entered s s.endStartUp := by
  have hstray (s : State) (d : Device) : books (s.strayClose d) = books s := by
    unfold State.strayClose
    split_ifs <;> simp
  have hstage (s : State) : Entered s ({ s with start := { s.start with stage := .ended } } : State) := .of_eq rfl
  unfold State.endStartUp State.handleAllEmergencies
  dsimp only
  refine .trans ?_ (.of_eq (produce_books _ .started))
  refine .trans ?_ (foldl_entered handleEmergency_entered _ _)
  exact (Entered.of_eq (foldl_books hstray strayDevices s)).trans (hstage _)

/-! ### The reactions -/

theorem workTest_entered {s t : State} {c : Chamber} (h : s.workTest? c = some t) : Entered s t := by
  have hreturn (h : s.levelReturn? c = some t) : books t = books s := by
    unfold State.levelReturn? at h
    split at h
    · split_ifs at h
      cases h
      simp
    · cases h
  have hstep (h : s.stepTest? c = some t) : books t = books s := by
    unfold State.stepTest? at h
    split at h
    · obtain ⟨x, -, rfl⟩ := Option.map_eq_some_iff.mp h
      simp
    · split at h
      · cases h
        simp
      · split_ifs at h
        cases h
        simp
  have hrequest (h : s.requestTest? c = some t) : books t = books s := by
    unfold State.requestTest? at h
    split at h
    · obtain ⟨x, -, rfl⟩ := Option.map_eq_some_iff.mp h
      simp
    · exact hstep h
  unfold State.workTest? at h
  split_ifs at h
  split at h
  · cases h
    exact advancePhase_entered ..
  · rcases Option.or_eq_some_iff.mp h with h | ⟨-, h⟩
    · exact .of_eq (hreturn h)
    · exact .of_eq (hrequest h)

/-- The reactions of one chamber but its work: they leave the books. -/
theorem chamberStep_books {s t : State} {c : Chamber}
    (h : s.handOver? c = some t ∨ s.reasonStep? c = some t ∨ s.safingStep? c = some t ∨ s.onsetStep? c = some t) :
    books t = books s := by
  rcases h with h | h | h | h
  · unfold State.handOver? at h
    dsimp only at h
    split at h
    · split_ifs at h
      cases h
      simp
    · cases h
  · unfold State.reasonStep? at h
    split_ifs at h <;> cases h <;> simp
  · unfold State.safingStep? at h
    split_ifs at h <;> cases h <;> simp
  · unfold State.onsetStep? at h
    split_ifs at h
    cases h
    simp

/-- A reaction enters in the books when it is the end of the start-up or the work of a chamber; any other leaves them. -/
theorem react_entered {s t : State} (h : s.react? = some t) : Entered s t := by
  rcases react_cases h with h | h | h | h | h | ⟨c, h | h | h | h | h⟩
  · unfold State.reportStep? at h
    split at h <;> cases h
    exact .of_eq (by simp)
  · unfold State.startUpStep? at h
    split at h
    · obtain rfl := Option.some.inj h
      exact endStartUp_entered s
    · cases h
  · unfold State.valveClosedStep? at h
    dsimp only at h
    split_ifs at h <;> cases h <;> exact .of_eq (by simp)
  · obtain ⟨d, -, rfl⟩ := Option.map_eq_some_iff.mp h
    exact .of_eq (makeGrant_books s d)
  · unfold State.watchStep? at h
    split_ifs at h
    cases h
    exact .of_eq (startRequest_books ..)
  · exact .of_eq (chamberStep_books (.inl h))
  · exact .of_eq (chamberStep_books (.inr (.inl h)))
  · exact .of_eq (chamberStep_books (.inr (.inr (.inl h))))
  · exact .of_eq (chamberStep_books (.inr (.inr (.inr h))))
  · exact workTest_entered h

/-- The end of an event only enters in the books (R160, R172, R173, R174). -/
theorem finish_entered (s : State) : Entered s s.finish := by
  have hsettle : Entered s s.settle :=
    settle_induct (Entered s) (fun _ _ h hreact => h.trans (react_entered hreact)) s (.refl s)
  refine hsettle.trans (.of_eq ?_)
  rw [finish_eq, finishQuiet_books, lightHeads_books, dispatch_books]

end Sys2Proof.Machine.RetainedBlocks

/-! ## Requests and the bounds of the retained blocks -/

namespace Sys2Proof.Machine.RetainedBlocks

/-! ### The clock, the accounts and the journal as the offices write them -/

/-- SET TIME writes a time whose fields lie in their ranges (R151, R153). -/
theorem setClock_keeps (s : State) {day second weekday : Nat} (h : timeOk day second weekday = true) :
    Keeps s (s.setClock ⟨day, second, weekday⟩) := by
  simp only [timeOk, Bool.and_eq_true, decide_eq_true_eq] at h
  obtain ⟨⟨hday, hsecond⟩, hweekday⟩ := h
  exact ⟨fun _ => ⟨hday, hsecond, hweekday⟩, id, id⟩

theorem tickClock_keeps (s : State) : Keeps s s.tickClock := by
  refine ⟨fun ⟨hday, hsecond, hweekday⟩ => ?_, id, id⟩
  show s.lockTime.tick.day ≤ 65535 ∧ s.lockTime.tick.second ≤ 86399 ∧ s.lockTime.tick.weekday ≤ 6
  unfold LockTime.tick
  split_ifs <;> refine ⟨?_, ?_, ?_⟩ <;> dsimp only <;> omega

theorem setBlocked_keeps (s : State) (n : Nat) (b : Bool) : Keeps s (s.modAcct fun u => u.setBlocked n b) := by
  refine ⟨id, fun ⟨hlength, haccounts, hrest⟩ => ?_, id⟩
  exact ⟨(List.length_modify ..).trans hlength,
    modify_bounded (g := fun a => { a with blocked := b }) haccounts (fun _ ha => ha) n, hrest⟩

/-- TAKE RECORD frees a place of the journal (R175). -/
theorem takeOldest_keeps {s : State} {r : ChargeRecord} {rs : List ChargeRecord} (h : s.acct.journal = r :: rs) :
    Keeps s (s.modAcct fun u => { u with journal := rs }) := by
  refine ⟨id, id, fun ⟨hheld, hsize⟩ => ⟨hheld, ?_⟩⟩
  rw [h, List.length_cons] at hsize
  show s.acct.reservations + rs.length ≤ journalSize
  omega

theorem nextPeriod_inRange {n : Nat} (hlow : 1 ≤ n) (hhigh : n ≤ 65535) : 1 ≤ nextPeriod n ∧ nextPeriod n ≤ 65535 := by
  unfold nextPeriod
  split_ifs <;> omega

/-- CLOSE PERIOD zeroes the totals and the counts, and advances the period within its range (R177). -/
theorem closePeriod_keeps (s : State) : Keeps s s.closePeriod := by
  refine ⟨id, fun ⟨hlength, _, hlow, hhigh, hserial⟩ => ?_, id⟩
  obtain ⟨hlow', hhigh'⟩ := nextPeriod_inRange hlow hhigh
  refine ⟨(List.length_map ..).trans hlength, fun a ha => ?_, hlow', hhigh', hserial⟩
  obtain ⟨x, -, rfl⟩ := List.mem_map.mp ha
  exact ⟨Nat.zero_le _, Nat.zero_le _⟩

theorem switchTest_books (s : State) : books s.switchTest = books s := by
  unfold State.switchTest
  split
  · split_ifs <;> rfl
  · rfl

/-! ### Answers -/

@[simp] theorem refuse_keeps (s : State) (r : Result) : Keeps s (s.refuse r).state := .refl s

/-- What passes a check has what it checks. -/
theorem check_keeps {s : State} {ok : Bool} {r : Result} {a : Answer} (h : ok = true → Keeps s a.state) :
    Keeps s (s.check ok r a).state := by
  cases ok
  · exact .refl s
  · exact h rfl

theorem asHolder_keeps {s : State} {f : Frame} {c : Option Chamber} {body : Chamber → Answer}
    (h : ∀ c, Keeps s (body c).state) : Keeps s (s.asHolder f c body).state := by
  unfold State.asHolder
  split
  · exact .refl s
  · split
    · exact .refl s
    · split_ifs
      · exact h _
      · exact .refl s

section
variable (f : Frame) (c : Option Chamber) (s : State)

/-! #### Authority -/

@[simp] theorem claimBody_keeps : Keeps s (claimBody f c s).state := by
  unfold claimBody
  split
  · exact .refl s
  · exact .refl s
  · exact check_keeps fun _ => .of_eq (claimBy_books ..)

@[simp] theorem releaseBody_keeps : Keeps s (releaseBody f c s).state := by
  unfold releaseBody
  split
  · exact .refl s
  · exact .refl s
  · split
    · exact .refl s
    · next h => exact check_keeps fun _ => .of_eq (releaseBy_books h)

@[simp] theorem presentBody_keeps : Keeps s (presentBody f s).state := check_keeps fun _ => check_keeps fun _ => .refl s

@[simp] theorem seizeBody_keeps : Keeps s (seizeBody f c s).state := by
  refine check_keeps fun _ => ?_
  cases c with
  | none => exact .refl s
  | some c => exact check_keeps fun _ => .of_eq (seizeBy_books ..)

/-! #### Commands to a chamber -/

@[simp] theorem startLockageBody_keeps (d : Option Direction) : Keeps s (startLockageBody f c d s).state := by
  refine asHolder_keeps fun c => check_keeps fun _ => check_keeps fun _ => ?_
  cases d with
  | none => exact .refl s
  | some d => exact check_keeps fun _ => (enterForming_entered ..).keeps

@[simp] theorem addVesselBody_keeps (h : Nat) (m : Option Mark) : Keeps s (addVesselBody f c h m s).state := by
  refine asHolder_keeps fun c => check_keeps fun _ => ?_
  split
  · exact .refl s
  · refine check_keeps fun _ => check_keeps fun _ => check_keeps fun _ => ?_
    split
    · next ht => exact (tryTake_entered ht).keeps
    · exact .refl s

@[simp] theorem closeEntryBody_keeps (list : List (Nat × Option Mark)) : Keeps s (closeEntryBody f c list s).state := by
  refine asHolder_keeps fun c => check_keeps fun _ => check_keeps fun _ => ?_
  split
  · exact .refl s
  · exact ((closeList_entered s c _).trans (.of_eq (enterPhase_books _ c .entryClosing))).keeps

@[simp] theorem exitDoneBody_keeps : Keeps s (exitDoneBody f c s).state :=
  asHolder_keeps fun c => check_keeps fun _ => check_keeps fun _ =>
    ((Entered.of_eq (deletePlan_books s c)).trans (enterIdle_entered _ c)).keeps

@[simp] theorem holdBody_keeps : Keeps s (holdBody f c s).state :=
  asHolder_keeps fun _ => check_keeps fun _ => check_keeps fun _ => .of_eq (holdOrder_books ..)

@[simp] theorem resumeBody_keeps : Keeps s (resumeBody f c s).state := by
  refine asHolder_keeps fun c => check_keeps fun _ => check_keeps fun _ => check_keeps fun _ => ?_
  show Keeps s (s.resume c)
  unfold State.resume
  split
  · exact .of_eq (by simp)
  · exact .refl s

@[simp] theorem abandonBody_keeps : Keeps s (abandonBody f c s).state :=
  asHolder_keeps fun _ => check_keeps fun _ => check_keeps fun _ => check_keeps fun _ => (abandon_entered ..).keeps

theorem queryFaulted_books (d : Device) : books (s.queryFaulted d) = books s := by
  unfold State.queryFaulted
  split_ifs <;> simp

@[simp] theorem acknowledgeFaultBody_keeps : Keeps s (acknowledgeFaultBody f c s).state := by
  cases c with
  | none => exact .refl s
  | some c =>
    refine asHolder_keeps fun c => check_keeps fun _ => check_keeps fun _ => check_keeps fun _ => ?_
    exact .of_eq ((foldl_books queryFaulted_books _ _).trans (by simp))

@[simp] theorem acknowledgeFaultCrossBody_keeps : Keeps s (acknowledgeFaultCrossBody f s).state :=
  check_keeps fun _ => check_keeps fun _ => check_keeps fun _ => .of_eq ((statusQuery_books _ .xv).trans rfl)

@[simp] theorem acknowledgeBody_keeps (x : Contents) : Keeps s (acknowledgeBody f x s).state := by
  unfold acknowledgeBody
  split_ifs <;> simp

@[simp] theorem setModeBody_keeps (m : Option StepMode) : Keeps s (setModeBody f c m s).state := by
  refine asHolder_keeps fun c => check_keeps fun _ => check_keeps fun _ => ?_
  have hmode (m : StepMode) : books (s.modSeq c fun q => { q with stepMode := m }) = books s := by simp
  cases m with
  | none => exact .refl s
  | some m =>
    cases m with
    | auto => exact .of_eq ((releaseStep_books _ c).trans (hmode .auto))
    | step => exact .of_eq (hmode .step)

@[simp] theorem advanceBody_keeps : Keeps s (advanceBody f c s).state :=
  asHolder_keeps fun _ => check_keeps fun _ => check_keeps fun _ => check_keeps fun _ => .of_eq (releaseStep_books ..)

@[simp] theorem setServiceBody_keeps (v : Option Service) : Keeps s (setServiceBody f c v s).state := by
  refine asHolder_keeps fun c => ?_
  unfold State.serviceAnswer
  split
  · exact check_keeps fun _ => check_keeps fun _ => .of_eq (enterPhase_books ..)
  · exact check_keeps fun _ => check_keeps fun _ => check_keeps fun _ => .of_eq (enterPhase_books ..)
  · exact check_keeps fun _ => .refl s

@[simp] theorem setAdmissionBody_keeps (n : Nat) : Keeps s (setAdmissionBody f c n s).state :=
  asHolder_keeps fun _ => check_keeps fun _ => check_keeps fun _ => .of_eq rfl

/-! #### The desk -/

theorem clearLockout_books (c : Chamber) : books (s.clearLockout c) = books s := by
  simp only [State.clearLockout, produce_books, stopChamber_books, modSeq_books_of_lockage, changePhase_books,
    foldl_books statusQuery_books, implies_true]
  exact modSeq_books_of_lockage s c (fun q => { q with faults := ⟨none, none, false⟩ }) fun _ => rfl

@[simp] theorem clearLockoutBody_keeps : Keeps s (clearLockoutBody f c s).state := by
  refine check_keeps fun _ => ?_
  cases c with
  | none => exact .refl s
  | some c => exact check_keeps fun _ => check_keeps fun _ => .of_eq (clearLockout_books s c)

@[simp] theorem lampCheckBody_keeps : Keeps s (lampCheckBody f s).state :=
  check_keeps fun _ => check_keeps fun _ => .of_eq rfl

@[simp] theorem loadConfigurationBody_keeps (block : List Byte) (x : StoreAnswer) :
    Keeps s (loadConfigurationBody f block x s).state := by
  refine check_keeps fun _ => check_keeps fun _ => check_keeps fun _ => ?_
  unfold State.writeConfiguration
  dsimp only
  split_ifs <;> exact .of_eq rfl

/-! #### Vessels -/

theorem withEmergency_keeps {s u : State} (v : Vessel) (d : ReplyData) (h : books u = books s) :
    Keeps s (u.withEmergency v d).state := by
  unfold State.withEmergency
  split_ifs
  · exact ((Entered.of_eq h).trans (handleEmergency_entered u v.handle)).keeps
  · exact .of_eq h

@[simp] theorem registerVesselBody_keeps (r : Registration) : Keeps s (registerVesselBody f r s).state := by
  refine check_keeps fun _ => ?_
  split
  · refine check_keeps fun _ => check_keeps fun _ => check_keeps fun _ => check_keeps fun _ => check_keeps fun _ => ?_
    split
    · exact .refl s
    · exact withEmergency_keeps _ _ rfl
  · exact .refl s

@[simp] theorem amendVesselBody_keeps (h : Nat) (m : Option Mark) (a : Amendment) :
    Keeps s (amendVesselBody f h m a s).state := by
  refine check_keeps fun _ => ?_
  split
  · exact .refl s
  · refine check_keeps fun _ => ?_
    unfold State.amendChecked
    split
    · exact .refl s
    · refine check_keeps fun _ => check_keeps fun _ => check_keeps fun _ => check_keeps fun _ => ?_
      exact withEmergency_keeps _ _ rfl

@[simp] theorem withdrawVesselBody_keeps (h : Nat) (m : Option Mark) : Keeps s (withdrawVesselBody f h m s).state := by
  refine check_keeps fun _ => ?_
  split
  · exact .refl s
  · exact check_keeps fun _ => check_keeps fun _ => (withdraw_entered s _).keeps

@[simp] theorem readVesselBody_keeps (h : Nat) (m : Option Mark) : Keeps s (readVesselBody f h m s).state := by
  unfold readVesselBody
  split
  · exact .refl s
  · exact check_keeps fun _ => .refl s

@[simp] theorem readQueueBody_keeps (e : Option End) (n : Nat) : Keeps s (readQueueBody f e n s).state := by
  cases e with
  | none => exact .refl s
  | some e => exact check_keeps fun _ => .refl s

/-! #### Clock, tariffs and accounts -/

@[simp] theorem setTimeBody_keeps (day second weekday : Nat) : Keeps s (setTimeBody f day second weekday s).state :=
  check_keeps fun _ => check_keeps fun h => setClock_keeps s (Bool.and_eq_true_iff.mp h).2

@[simp] theorem loadTariffBody_keeps (t : Tariff) (i : Option Instant) : Keeps s (loadTariffBody f t i s).state := by
  refine check_keeps fun _ => check_keeps fun _ => check_keeps fun _ => ?_
  cases i <;> exact .of_eq rfl

@[simp] theorem readTariffBody_keeps (x : Option Slot) : Keeps s (readTariffBody f x s).state := by
  cases x with
  | none => exact .refl s
  | some x =>
    refine check_keeps fun _ => ?_
    split <;> exact .refl s

@[simp] theorem blockAccountBody_keeps (n : Nat) : Keeps s (blockAccountBody f n s).state :=
  check_keeps fun _ => check_keeps fun _ => setBlocked_keeps s n true

@[simp] theorem unblockAccountBody_keeps (n : Nat) : Keeps s (unblockAccountBody f n s).state :=
  check_keeps fun _ => check_keeps fun _ => setBlocked_keeps s n false

@[simp] theorem peekRecordBody_keeps : Keeps s (peekRecordBody f s).state := by
  refine check_keeps fun _ => check_keeps fun _ => ?_
  split <;> exact .refl s

@[simp] theorem takeRecordBody_keeps (expected : Option Nat) : Keeps s (takeRecordBody f expected s).state := by
  refine check_keeps fun _ => check_keeps fun _ => ?_
  split
  · exact .refl s
  · next h => exact check_keeps fun _ => takeOldest_keeps h

@[simp] theorem closePeriodBody_keeps : Keeps s (closePeriodBody f s).state :=
  check_keeps fun _ => check_keeps fun _ => closePeriod_keeps s

@[simp] theorem readPeriodImageBody_keeps (n : Nat) : Keeps s (readPeriodImageBody f n s).state := by
  refine check_keeps fun _ => check_keeps fun _ => ?_
  split <;> exact .refl s

@[simp] theorem readAccountBody_keeps (n : Nat) : Keeps s (readAccountBody f n s).state := check_keeps fun _ => .refl s

@[simp] theorem readStatusBody_keeps (which : Nat) : Keeps s (readStatusBody f which s).state := by
  unfold readStatusBody
  split
  · exact .refl s
  · exact check_keeps fun _ => .refl s

end

/-- The request of every kind code. -/
theorem requestBody_keeps (code : Byte) (f : Frame) (contents : List Byte) (x : Contents) (s : State) :
    Keeps s (requestBody code f contents x s).state := by
  unfold requestBody
  split <;> simp

/-! ### Frames at a link port -/

theorem finish_keeps {s u : State} (h : Keeps s u) : Keeps s u.finish := h.trans (finish_entered u).keeps

theorem finishQuiet_keeps {s u : State} (h : Keeps s u) : Keeps s u.finishQuiet := h.trans (.of_eq (finishQuiet_books u))

theorem meetSlots_keeps {s : State} {f : Frame} {code : Byte} {body : State → Answer} (h : Keeps s (body s).state) :
    Keeps s (s.meetSlots f code body) := by
  unfold State.meetSlots
  split
  · rw [place_eq]
    split_ifs
    · exact finish_keeps (h.trans (.of_eq rfl))
    · exact finishQuiet_keeps (h.trans (.of_eq rfl))
  · exact finishQuiet_keeps (.of_eq rfl)
  · exact finishQuiet_keeps (.refl s)

theorem takeHeard_keeps (l : Link) (bytes : List ArrivedByte) (s : State) (h : Heard) : Keeps s (s.takeHeard l bytes h) :=
  .trans (t := (s.beginEvent 0).hearAt l (s.now - h.age bytes)) (.of_eq rfl) (meetSlots_keeps (requestBody_keeps ..))

/-- The receiver that searches on among discarded bytes only takes requests (R183). -/
theorem discardFrame_keeps (s : State) (l : Link) (gap : Bool) (bytes : List ArrivedByte) :
    Keeps s (s.discardFrame l gap bytes) := by
  unfold State.discardFrame
  dsimp only
  split_ifs
  · exact .of_eq rfl
  · have hfound (found : List Heard) : Keeps s (found.foldl (State.takeHeard l bytes) s.finishQuiet) :=
      (finishQuiet_keeps (.refl s)).trans (foldl_keeps (takeHeard_keeps l bytes) found _)
    exact (hfound _).trans (.of_eq rfl)

end Sys2Proof.Machine.RetainedBlocks

/-! ## Every step keeps the bounds of the retained blocks -/

namespace Sys2Proof.Machine.RetainedBlocks

/-! ### Events that end with the reactions -/

@[simp] theorem applyScan_books (s : State) (a : ConverterAnswer) : books (s.applyScan a) = books s :=
  (foldl_books (fun s x => produce_books s (.levelQuality x)) _ _).trans rfl

@[simp] theorem setDone_books (s : State) (d : Device) (v : Filtered) : books (s.setDone d v) = books s := rfl
@[simp] theorem setBeam_books (s : State) (c : Chamber) (e : End) (v : Filtered) : books (s.setBeam c e v) = books s := rfl
@[simp] theorem armLimitTrip_books (s : State) (c : Chamber) (b : Bool) : books (s.armLimitTrip c b) = books s := rfl
@[simp] theorem armCrossTrip_books (s : State) (b : Bool) : books (s.armCrossTrip b) = books s := rfl
@[simp] theorem keepConflict_books (s : State) : books s.keepConflict = books s := rfl

@[simp] theorem placeQueries_books (s : State) : books s.placeQueries = books s := foldl_books statusQuery_books _ s

@[simp] theorem readEnds_books (s : State) (answers : Bool) : books (s.readEnds answers) = books s := by
  unfold State.readEnds
  dsimp only
  split
  · rfl
  · exact (enterPhase_books _ .B .outOfService).trans ((enterPhase_books _ .A .outOfService).trans rfl)

theorem when_keeps {s u : State} (due : Bool) (h : Keeps s u) : Keeps s (s.when due u) := by
  cases due
  · exact .of_eq rfl
  · exact h

theorem driveAnswer_keeps (s : State) (address : Nat) (want : Task → Bool) (a : DriveAnswer) :
    Keeps s (s.driveAnswer address want a) := by
  unfold State.driveAnswer
  split
  · exact when_keeps _ (finish_keeps (.of_eq (answered_books s _ _ a)))
  · exact .of_eq rfl

theorem sampleEvent_keeps (s : State) (m : PerHead (PerLamp Bool)) : Keeps s (s.sampleEvent m) := by
  have hsample : books (s.lampSample m) = books s := (foldl_books produce_books _ _).trans rfl
  unfold State.sampleEvent
  split_ifs
  · exact finish_keeps (.of_eq hsample)
  · exact finishQuiet_keeps (.of_eq hsample)

/-! ### The clock's tick, holds and starts (R151, R181, R201, R202) -/

theorem tick_keeps (s : State) : Keeps s s.tick := by
  unfold State.tick
  split_ifs
  · exact (tickClock_keeps s).trans (.of_eq rfl)
  · exact finishQuiet_keeps ((tickClock_keeps s).trans (.of_eq (switchTest_books _)))
  · exact .of_eq rfl

theorem frameOut_keeps (s : State) (l : Link) : Keeps s (s.frameOut l) := by
  unfold State.frameOut
  split_ifs
  · exact .of_eq rfl
  · exact finishQuiet_keeps (.of_eq rfl)

theorem cold_bounded : UnitBounded .cold := by
  refine ⟨List.length_replicate, fun a ha => ?_, by decide, by decide, by decide⟩
  rw [List.eq_of_mem_replicate ha]
  exact ⟨Nat.zero_le _, Nat.zero_le _⟩

/-- A cold start sets the clock, the accounts and the journal anew (R166, R181). -/
theorem coldRetained_keeps (s : State) (k : StartKind) : Keeps s (s.coldRetained.freshVolatile k) :=
  ⟨fun _ => ⟨Nat.zero_le _, Nat.zero_le _, Nat.zero_le _⟩, fun _ => cold_bounded, fun _ => ⟨Nat.le_refl 0, Nat.zero_le _⟩⟩

/-- Any other start only loses the reservations, and no lockage record is left to hold one (R73, R181). -/
theorem keptRetained_keeps (s : State) (k : StartKind) : Keeps s (s.keptRetained.freshVolatile k) := by
  refine ⟨id, id, fun ⟨_, hsize⟩ => ⟨Nat.le_refl 0, ?_⟩⟩
  show 0 + s.acct.journal.length ≤ journalSize
  omega

theorem startPart_keeps (s : State) : Keeps s s.startPart := by
  unfold State.startPart
  dsimp only
  split_ifs
  · exact coldRetained_keeps s _
  · exact keptRetained_keeps s _

/-! ### Whole commands -/

theorem keeps_after_request {s t : State} {dt : Nat} {f : Frame} {code : Byte} {body : State → Answer}
    (h : s.request dt f code body = .next t) (hb : ∀ u, Keeps u (body u).state) : Keeps s t := by
  injection h with h
  subst h
  split_ifs
  · exact .of_eq rfl
  · exact .trans (t := s.taken dt f) (.of_eq rfl) (meetSlots_keeps (hb _))

theorem keeps_after_event {s t : State} {dt : Nat} {body : State → State} (h : s.event? dt body = .next t)
    (hb : ∀ u, Keeps u (body u)) : Keeps s t := by
  injection h with h
  subst h
  split_ifs
  · exact .of_eq rfl
  · exact .trans (t := s.beginEvent dt) (.of_eq rfl) (hb _)

/-- An event that other blocks react to, and whose own effect leaves the books. -/
theorem keeps_after_finish {s t : State} {dt : Nat} {due : State → Bool} {op : State → State}
    (h : (s.event? dt fun u => u.when (due u) (op u).finish) = .next t) (hop : ∀ u, books (op u) = books u) : Keeps s t :=
  keeps_after_event h fun u => when_keeps _ (finish_keeps (.of_eq (hop u)))

/-- An event that no other block reacts to, and that leaves the books. -/
theorem keeps_after_finishQuiet {s t : State} {dt : Nat} {due : State → Bool} {op : State → State}
    (h : (s.event? dt fun u => u.when (due u) (op u).finishQuiet) = .next t) (hop : ∀ u, books (op u) = books u) :
    Keeps s t :=
  keeps_after_event h fun u => when_keeps _ (finishQuiet_keeps (.of_eq (hop u)))

/-- A command of the part itself, carried out while it is held as well. -/
theorem keeps_after_own {s t u : State} {dt : Nat} {due : Bool}
    (h : (.next ((s.beginEvent dt).when due u) : Outcome) = .next t) (hu : Keeps (s.beginEvent dt) u) : Keeps s t := by
  injection h with h
  subst h
  exact .trans (t := s.beginEvent dt) (.of_eq rfl) (when_keeps _ hu)

/-- Every command keeps the bounds: a request by its answer, an event by its own effect and the entries of the reactions. -/
theorem exec_keeps {c : Instr} {s t : State} (h : exec c s = .next t) : Keeps s t := by
  unfold exec at h
  cases c with
  | claim | release | present | seize | startLockage | addVessel | closeEntry | exitDone | hold | resume | abandon
  | acknowledgeFault | acknowledgeFaultCross | setMode | advance | setService | setAdmission | clearLockout | lampCheck
  | loadConfiguration | registerVessel | amendVessel | withdrawVessel | setTime | loadTariff | blockAccount | unblockAccount
  | peekRecord | takeRecord | closePeriod | readPeriodImage | readStatus | readVessel | readQueue | readTariff | readAccount =>
    exact keeps_after_request h fun u => by simp
  | unknownCommand dt l code tag =>
    change (if isRequestCode code then s.event? dt State.rest
      else s.request dt ⟨l, tag, true⟩ code fun s => s.refuse .unknownCommand) = .next t at h
    split_ifs at h
    · exact keeps_after_event h fun _ => .of_eq rfl
    · exact keeps_after_request h fun u => refuse_keeps u _
  | frameInvalid | frameGapTimeout => exact keeps_after_event h fun u => discardFrame_keeps u ..
  | holderSilence | claimantSilence | travelDeadlineExpiry | limitInputChange | sillBeamClear | limitConflict | crossConflict
  | scanCompletion | levelTimeout | levelLost | crossWaitExpiry | crossExchangeExpiry | configReadEnd | censusQueries =>
    exact keeps_after_finish h fun u => by simp
  | busyLink | frameDiscardedSlotsFull | limitConflictRearm | crossConflictRearm | scanStart | doneInputChange =>
    exact keeps_after_finishQuiet h fun _ => rfl
  | deadTimeExpiry => exact keeps_after_finishQuiet h dispatch_books
  | startAnswer | stopAnswer | statusReply => exact keeps_after_event h fun u => driveAnswer_keeps u ..
  | driveAnswerTimeout =>
    refine keeps_after_event h fun u => ?_
    split
    · exact finish_keeps (.of_eq (unanswered_books ..))
    · exact .of_eq rfl
  | driveFrameDiscarded =>
    refine keeps_after_event h fun u => ?_
    split
    · exact driveAnswer_keeps u ..
    · exact .of_eq rfl
  | doneEvent dt d =>
    refine keeps_after_event h fun u => when_keeps _ ?_
    split_ifs
    · exact finish_keeps (.of_eq (by simp [State.doneTaken]))
    · exact finishQuiet_keeps (.of_eq rfl)
  | sillBeamBreak =>
    refine keeps_after_event h fun u => when_keeps _ ?_
    split_ifs <;> exact finish_keeps (.of_eq (by simp))
  | lampLatch | lampStray | lampCurrentSample => exact keeps_after_event h fun u => when_keeps _ (sampleEvent_keeps u _)
  | frameSent => exact keeps_after_event h fun u => when_keeps _ (frameOut_keeps u _)
  | clockTick dt =>
    injection h with h
    exact h ▸ .trans (t := s.beginEvent dt) (.of_eq rfl) (tick_keeps _)
  | resetLineHeld | mainPowerHeld | batteryLow => exact keeps_after_own h (.of_eq rfl)
  | partReleased => exact keeps_after_own h (startPart_keeps _)

/-- Settles O10: a step runs the command at the front of the queue, which keeps the bounds. -/
theorem retainedBlocksKept : Obligations.RetainedBlocksKept := by
  intro s t h
  have hkeeps : Keeps s t := by
    unfold step at h
    split at h
    · cases h
      exact .refl s
    · next c rest _ => exact .trans (t := { s with pending := rest }) (.of_eq rfl) (exec_keeps h)
  exact ⟨hkeeps.clock, hkeeps.accounts, hkeeps.journal⟩

end Sys2Proof.Machine.RetainedBlocks

/-! ## Clock and tariffs (R151, R153, R156, R157, R162) -/

namespace Sys2Proof.Machine.ClockAndTariffs

/-! ### The notice of an event that produces just one (R197) -/

/-- What stands in a queue when the transmitter is served is sent or still stands there (R184). -/
theorem transmit_carries {p : LinkPort} {n : Notice} (h : n ∈ p.queue) : p.transmit.carries n := by
  unfold LinkPort.transmit
  split
  · exact .inl h
  · split
    · exact .inl h
    · split
      · exact .inl h
      · split
        · exact .inl h
        · next head rest hqueue =>
          rw [hqueue] at h
          rcases List.mem_cons.mp h with rfl | hrest
          · exact .inr ⟨p.sequence, rfl⟩
          · exact .inl hrest

/-- The one notice of an event reaches every link to which it is routed. -/
theorem finishQuiet_carries {s : State} {p : Produced} {l : Link} (hproduced : s.event.produced = [p])
    (hdeferred : s.event.deferred = .both false) (hrouted : s.routed (s.noticeOf p) l = true) :
    (s.finishQuiet.port l).carries (s.noticeOf p) := by
  have hsame : s.deferralNotices = s := by
    simp [State.deferralNotices, hdeferred, PerEnd.both, PerEnd.get]
  have hnotices : s.eventNotices = [s.noticeOf p] := by
    simp [State.eventNotices, hproduced, joinOrder]
  have hport : s.finishQuiet.port l = ((s.port l).join [s.noticeOf p]).transmit := by
    simp [State.finishQuiet, hsame, State.flush, hnotices, State.port, State.rest, hrouted]
  rw [hport]
  refine transmit_carries ?_
  simp [LinkPort.join, joinQueue]

/-! ### Requests that write the clock and the tariffs -/

/-- A request that is accepted with a state to which no other block reacts leaves that state and brings its reply. -/
theorem quiet_served {s u : State} {dt : Nat} {f : Frame} {code : Byte} {d : ReplyData} {body : State → Answer}
    (hr : Ready s f) (hb : body (s.taken dt f) = u.acceptQuiet d) (hl : u.links = (s.taken dt f).links) :
    ∃ t, s.request dt f code body = .next t ∧ t = { u with links := t.links, event := .blank } ∧
      LinksAnswered s t dt f code .ok d ∧
      ∀ p l, u.event.produced = [p] → u.event.deferred = .both false → u.routed (u.noticeOf p) l = true →
        (t.port l).carries (u.noticeOf p) := by
  refine ⟨(u.replied f code .ok d).finishQuiet, ?_, ?_, quiet_linksAnswered code .ok d hl,
    fun p l hproduced hdeferred hrouted => ?_⟩
  · rw [request_taken hr, hb]
    rfl
  · rw [finishQuiet_eq]
    rfl
  · have hsame : (u.replied f code .ok d).noticeOf p = u.noticeOf p := by
      cases p <;> rfl
    have hcarries := finishQuiet_carries (s := u.replied f code .ok d) (l := l) hproduced hdeferred (by rwa [hsame])
    rwa [hsame] at hcarries

/-- A notice of the class ALL goes to every link (R198). -/
theorem routed_of_all {s : State} {n : Notice} (h : n.kind.routing = .all) (l : Link) : s.routed n l = true := by
  rw [State.routed, h]

/-- Settles O13: the request passes its checks, and its one notice goes to every link. -/
theorem setTimeSetsClock : Obligations.SetTimeSetsClock := by
  intro dt f day second weekday s hr hlen hf hday hsecond hweekday
  have htime : timeOk day second weekday = true := by
    simp [timeOk, hday, hsecond, hweekday]
  have hbody : setTimeBody f day second weekday (s.taken dt f) =
      ((s.taken dt f).setClock ⟨day, second, weekday⟩).acceptQuiet := by
    rw [setTimeBody, ApproachQueues.operates_of_ne_toll hf, hlen, htime]
    rfl
  obtain ⟨t, hnext, ht, hlinks, hnotice⟩ := quiet_served (code := 23) hr hbody rfl
  exact ⟨t, hnext, ht, hlinks, fun l => hnotice _ l rfl rfl (routed_of_all rfl l)⟩

/-- An accepted LOAD TARIFF is carried out (R156). -/
theorem loadTariffBody_accepts {f : Frame} {x : Tariff} {i : Option Instant} {s : State} (hlen : f.lengthMatches = true)
    (hf : f.link = .toll) (hx : tariffOk x = true) (hi : instantOk i = true) (hversion : x.version ≠ versionOf s.charge.current) :
    loadTariffBody f x i s = (s.loadTariff x i).acceptQuiet := by
  have htoll : f.link.isToll = true := by
    rw [hf]
    rfl
  rw [loadTariffBody, htoll, hlen, hx, hi, decide_eq_true hversion]
  rfl

/-- Settles O14: a dated tariff is written with no notice, an immediate one switches and tells every link. -/
theorem loadTariffWritesSlots : Obligations.LoadTariffWritesSlots := by
  intro dt f x s hr hlen hf hx hversion
  refine ⟨fun i hday hsecond => ?_, ?_⟩
  · have hi : instantOk (some i) = true := by
      simp [instantOk, hday, hsecond]
    have hbody := loadTariffBody_accepts (s := s.taken dt f) hlen hf hx hi hversion
    obtain ⟨t, hnext, ht, hlinks, -⟩ := quiet_served (code := 25) hr hbody rfl
    exact ⟨t, hnext, ht, hlinks⟩
  · have hbody := loadTariffBody_accepts (i := none) (s := s.taken dt f) hlen hf hx rfl hversion
    obtain ⟨t, hnext, ht, hlinks, hnotice⟩ := quiet_served (code := 25) hr hbody rfl
    exact ⟨t, hnext, ht, hlinks, fun l => hnotice _ l rfl rfl (routed_of_all rfl l)⟩

/-! ### The tick of the clock (R151, R157) -/

theorem tick_eq_nextSecond (t : LockTime) : t.tick = nextSecond t := by
  unfold LockTime.tick nextSecond
  split_ifs <;> rfl

theorem atOrAfter_iff (t : LockTime) (i : Instant) :
    t.atOrAfter i = true ↔ i.day < t.day ∨ (i.day = t.day ∧ i.second ≤ t.second) := by
  simp [LockTime.atOrAfter]

/-- The switch test writes the charge unit and the event, and nothing else (R157). -/
theorem switchTest_eq (s : State) : s.switchTest = { s with charge := s.switchTest.charge, event := s.switchTest.event } := by
  unfold State.switchTest
  split
  · split_ifs <;> rfl
  · rfl

theorem switchTest_clock (s : State) : s.switchTest.charge.clock = s.charge.clock := by
  unfold State.switchTest
  split
  · split_ifs <;> rfl
  · rfl

/-- The switch test by what PENDING holds (R157). -/
theorem switchTest_slots (s : State) :
    match s.charge.pending with
    | none => s.switchTest.charge.current = s.charge.current ∧ s.switchTest.charge.pending = none
    | some p =>
      if s.charge.clock.isSet = true ∧
          (p.instant.day < s.lockTime.day ∨ (p.instant.day = s.lockTime.day ∧ p.instant.second ≤ s.lockTime.second))
      then s.switchTest.charge.current = some p.tariff ∧ s.switchTest.charge.pending = none
      else s.switchTest.charge.current = s.charge.current ∧ s.switchTest.charge.pending = some p := by
  rw [State.switchTest]
  cases hpending : s.charge.pending with
  | none => exact ⟨rfl, hpending⟩
  | some p =>
    simp only [Bool.and_eq_true, atOrAfter_iff]
    split_ifs
    · exact ⟨rfl, rfl⟩
    · exact ⟨rfl, hpending⟩

/-- A tick that is due: the switch test follows unless the part is held (R157, R201). -/
theorem exec_clockTick_due {dt : Nat} {s : State} (hdue : s.charge.clock.nextTick ≤ s.now + dt) :
    exec (.clockTick dt) s =
      .next (if s.isHeld then (s.beginEvent dt).tickClock.rest else (s.beginEvent dt).tickClock.switchTest.finishQuiet) :=
  congrArg Host.Outcome.next (if_pos hdue)

/-- Settles O15: the clock is the ticked one whether or not the switch test follows; the slots are those that the test leaves. -/
theorem clockTickAdvances : Obligations.ClockTickAdvances := by
  intro dt s hdue
  have hclock : (s.beginEvent dt).tickClock.charge.clock =
      ⟨nextSecond s.lockTime, s.charge.clock.isSet, s.charge.clock.nextTick + 1000⟩ := by
    rw [← tick_eq_nextSecond]
    rfl
  have hslots := switchTest_slots (s.beginEvent dt).tickClock
  have htest := switchTest_eq (s.beginEvent dt).tickClock
  have htestClock := switchTest_clock (s.beginEvent dt).tickClock
  refine ⟨_, exec_clockTick_due hdue, ?_⟩
  cases hheld : s.isHeld with
  | true => exact ⟨rfl, hclock, fun _ => ⟨rfl, rfl, rfl⟩, nofun⟩
  | false =>
    simp only [Bool.false_eq_true, if_false, finishQuiet_charge, State.lockTime, htestClock]
    refine ⟨?_, hclock, nofun, fun _ => ⟨fun l => ?_, hslots⟩⟩
    · rw [finishQuiet_eq, htest]
      rfl
    · have hport : (s.beginEvent dt).tickClock.switchTest.port l = s.port l := by
        rw [htest]
        rfl
      rw [← hport]
      exact finishQuiet_port _ l

/-! ### The own charge (R162) -/

/-- The rows of the charged classes (R155). -/
theorem rate_of_charged {p : PerCharged Rate} {cls : VesselClass} {r : Rate}
    (h : (cls, r) ∈ [(VesselClass.pleasure, p.pleasure), (.cargo, p.cargo), (.tanker, p.tanker), (.passenger, p.passenger)]) :
    p.get? cls = some r := by
  simp only [List.mem_cons, List.not_mem_nil, or_false, Prod.mk.injEq] at h
  rcases h with ⟨rfl, rfl⟩ | ⟨rfl, rfl⟩ | ⟨rfl, rfl⟩ | ⟨rfl, rfl⟩ <;> rfl

theorem ownCharge_of_rate {snap : Snapshot} {cls : VesselClass} {r : Rate} (h : snap.rates.get? cls = some r) (length : Nat) :
    ownCharge snap cls length = ((r.base + (length + 9) / 10 * r.metre) * snap.factor + 50) / 100 := by
  rw [ownCharge, h]

/-- The base of an own charge within the ranges of a tariff and of a vessel's length (R104, R155). -/
theorem base_le {base metre metres : Nat} (hbase : base ≤ 1000000) (hmetre : metre ≤ 100000) (hmetres : metres ≤ 200) :
    base + metres * metre ≤ 21000000 :=
  calc base + metres * metre ≤ 1000000 + 200 * 100000 := Nat.add_le_add hbase (Nat.mul_le_mul hmetres hmetre)
    _ = 21000000 := rfl

/-- Settles O19: the started metres are the length in tenths of a metre divided by 10 and rounded up. -/
theorem ownChargeOfEntry : Obligations.OwnChargeOfEntry := by
  refine ⟨fun snap length => ⟨rfl, rfl, fun cls r hrow => ?_⟩, fun _ _ _ _ _ => rfl⟩
  refine ⟨(length + 9) / 10, by omega, by omega, ?_⟩
  intro base own
  have hown : own = (base * snap.factor + 50) / 100 := ownCharge_of_rate (rate_of_charged hrow) length
  refine ⟨hown, by omega, by omega, fun hfactor => ?_, fun hbase hmetre hlength => ?_⟩
  · rw [hown, hfactor, Nat.mul_zero]
  · have hbound : base ≤ 21000000 := base_le hbase hmetre (by omega)
    refine ⟨hbound, fun hfactor => ?_⟩
    have hcharge : base * snap.factor ≤ 21000000 * 400 := Nat.mul_le_mul hbound hfactor
    omega

end Sys2Proof.Machine.ClockAndTariffs

/-! ## Accounts, postings and the period close (R168, R169, R174, R175, R177, R178) -/

namespace Sys2Proof.Machine.AccountsAndPeriods

/-! ### Additions to an account (R168) -/

/-- An account after additions of `amount` in all that counted `passages` vessels, the last one at `last` (R168). -/
def addedUp (a : Account) (amount passages : Nat) (last : Option LockTime) : Account :=
  { blocked := a.blocked
    total := min periodTotalBound (a.total + amount)
    saturated := a.saturated || decide (periodTotalBound < a.total + amount)
    count := min periodCountBound (a.count + passages)
    lastCharged := last }

theorem add_eq_addedUp {a : Account} (h : a.bounded) (amount : Nat) (counted : Bool) (t : LockTime) :
    a.add amount counted t = addedUp a amount counted.toNat (some t) := by
  rw [addedUp, ← a.add_total amount counted t, ← a.add_count amount counted t h.2]
  rfl

/-- Nothing added leaves an account that keeps its bounds. -/
theorem addedUp_zero {a : Account} (h : a.bounded) : addedUp a 0 0 a.lastCharged = a := by
  obtain ⟨htotal, hcount⟩ := h
  rw [addedUp, Nat.add_zero, Nat.add_zero, min_eq_right htotal, min_eq_right hcount, decide_eq_false (by omega), Bool.or_false]

/-- Saturation does not depend on how a sum is divided. -/
theorem addedUp_addedUp (a : Account) (m n i j : Nat) (t u : Option LockTime) :
    addedUp (addedUp a m i t) n j u = addedUp a (m + n) (i + j) u := by
  have htotal : min periodTotalBound (min periodTotalBound (a.total + m) + n) = min periodTotalBound (a.total + (m + n)) := by
    omega
  have hcount : min periodCountBound (min periodCountBound (a.count + i) + j) = min periodCountBound (a.count + (i + j)) := by
    omega
  have hflag : (decide (periodTotalBound < a.total + m) || decide (periodTotalBound < min periodTotalBound (a.total + m) + n)) =
      decide (periodTotalBound < a.total + (m + n)) := by
    rw [← Bool.decide_or]
    exact decide_eq_decide.mpr (by omega)
  exact (Account.mk.injEq ..).mpr
    ⟨rfl, htotal, (Bool.or_assoc ..).trans (congrArg (a.saturated || ·) hflag), hcount, rfl⟩

theorem addedUp_bounded (a : Account) (m i : Nat) (t : Option LockTime) : (addedUp a m i t).bounded :=
  ⟨Nat.min_le_left .., Nat.min_le_left ..⟩

/-! ### Postings (R174) -/

theorem charge_accounts_same {u : AccountingUnit} {n : Nat} {a : Account} (h : u.accounts[n]? = some a) (ha : a.bounded)
    (amount : Nat) (counted : Bool) (t : LockTime) :
    (u.charge n amount counted t).accounts[n]? = some (addedUp a amount counted.toNat (some t)) := by
  rw [← add_eq_addedUp ha]
  simp [AccountingUnit.charge, h]

theorem charge_accounts_other (u : AccountingUnit) {m n : Nat} (h : m ≠ n) (amount : Nat) (counted : Bool) (t : LockTime) :
    (u.charge m amount counted t).accounts[n]? = u.accounts[n]? := by
  simp [AccountingUnit.charge, h]

/-- An entry writes nothing but the accounts, and keeps their number. -/
theorem chargeEntry_eq (t : LockTime) (u : AccountingUnit) (e : ChargeEntry) :
    u.chargeEntry t e = { u with accounts := (u.chargeEntry t e).accounts } ∧
      (u.chargeEntry t e).accounts.length = u.accounts.length := by
  unfold AccountingUnit.chargeEntry
  split_ifs
  · exact ⟨rfl, rfl⟩
  · exact ⟨rfl, List.length_modify ..⟩

theorem chargeEntries_eq (t : LockTime) (es : List ChargeEntry) (u : AccountingUnit) :
    es.foldl (AccountingUnit.chargeEntry t) u = { u with accounts := (es.foldl (AccountingUnit.chargeEntry t) u).accounts } ∧
      (es.foldl (AccountingUnit.chargeEntry t) u).accounts.length = u.accounts.length := by
  induction es generalizing u with
  | nil => exact ⟨rfl, rfl⟩
  | cons e es ih =>
    obtain ⟨hentry, hlength⟩ := chargeEntry_eq t u e
    obtain ⟨hrest, hlengths⟩ := ih (u.chargeEntry t e)
    refine ⟨?_, hlengths.trans hlength⟩
    rw [List.foldl_cons, hrest, hentry]

/-- The entries that charge an account, as R174 names them. -/
def chargesAccount (n : Nat) (e : ChargeEntry) : Bool := !e.cls.exempt && decide (e.account = n)

theorem chargedTo_eq (r : ChargeRecord) (n : Nat) : chargedTo r n = r.entries.filter (chargesAccount n) := rfl

theorem chargeEntry_account {u : AccountingUnit} {n : Nat} {a : Account} (h : u.accounts[n]? = some a) (ha : a.bounded)
    (t : LockTime) (e : ChargeEntry) :
    (u.chargeEntry t e).accounts[n]? = some (if chargesAccount n e then addedUp a e.total 1 (some t) else a) := by
  unfold AccountingUnit.chargeEntry chargesAccount
  cases e.cls.exempt with
  | true => exact h
  | false =>
    by_cases hn : e.account = n
    · subst hn
      simpa using charge_accounts_same h ha e.total true t
    · simpa [hn] using (charge_accounts_other u hn e.total true t).trans h

/-- Step 2 of a posting: an account takes the sum of the entries that charge it. -/
theorem chargeEntries_account {n : Nat} (t : LockTime) (es : List ChargeEntry) {u : AccountingUnit} {a : Account}
    (h : u.accounts[n]? = some a) (ha : a.bounded) :
    (es.foldl (AccountingUnit.chargeEntry t) u).accounts[n]? =
      some (addedUp a ((es.filter (chargesAccount n)).map ChargeEntry.total).sum (es.filter (chargesAccount n)).length
        (if es.filter (chargesAccount n) = [] then a.lastCharged else some t)) := by
  induction es generalizing u a with
  | nil => exact h.trans (congrArg some (addedUp_zero ha).symm)
  | cons e es ih =>
    have hentry := chargeEntry_account h ha t e
    rw [List.foldl_cons]
    by_cases hcharges : chargesAccount n e = true
    · rw [if_pos hcharges] at hentry
      rw [ih hentry (addedUp_bounded ..), addedUp_addedUp, List.filter_cons_of_pos hcharges]
      simp [addedUp, Nat.add_comm]
    · rw [if_neg hcharges] at hentry
      rw [ih hentry ha, List.filter_cons_of_neg hcharges]

theorem post_eq (u : AccountingUnit) (r : ChargeRecord) :
    u.post r =
        { u with
          journal := u.journal ++ [{ r with period := u.period }]
          reservations := u.reservations - 1
          accounts := (u.post r).accounts } ∧
      (u.post r).accounts.length = u.accounts.length := by
  obtain ⟨hentries, hlength⟩ := chargeEntries_eq r.finalized r.entries (u.append r)
  refine ⟨?_, (List.length_modify ..).trans hlength⟩
  rw [AccountingUnit.post, hentries]
  rfl

/-- Settles O17: an account takes the sum of the entries that charge it, account 0 the unallocated water as well. -/
theorem postingAddsUp : Obligations.PostingAddsUp := by
  intro u r
  obtain ⟨hunit, hlength⟩ := post_eq u r
  refine ⟨hunit, hlength, fun n a _ ha hbounded => ?_⟩
  have hentries := chargeEntries_account (u := u.append r) r.finalized r.entries ha hbounded
  rw [← chargedTo_eq] at hentries
  by_cases hn : n = 0
  · subst hn
    rw [AccountingUnit.post, charge_accounts_same hentries (addedUp_bounded ..), addedUp_addedUp]
    simp [addedUp, addedTo]
  · rw [AccountingUnit.post, charge_accounts_other _ (Ne.symm hn), hentries]
    simp [addedUp, addedTo, hn]

/-! ### Requests of the toll office (R169, R175, R177) -/

theorem isToll_of_toll {f : Frame} (h : f.link = .toll) : f.link.isToll = true := by
  rw [h]
  rfl

/-- BLOCK and UNBLOCK ACCOUNT write the state of one account (R169). -/
theorem setBlocked_account {s : State} {n : Nat} (hn : n < s.acct.accounts.length) (b : Bool) (m : Nat) :
    (s.modAcct fun u => u.setBlocked n b).account m = if m = n then { s.account n with blocked := b } else s.account m := by
  simp only [State.account, State.modAcct, AccountingUnit.setBlocked, List.getD_eq_getElem?_getD, List.getElem?_modify]
  by_cases h : m = n
  · subst h
    simp [hn]
  · simp [h, Ne.symm h]

/-- A request accepted with a write of one account's state answers so (R169). -/
theorem setBlocked_answers {dt : Nat} {f : Frame} {s : State} {n : Nat} {b : Bool} {code : Byte} {body : State → Answer}
    (hr : Ready s f) (hlength : s.acct.accounts.length = 256) (hn : n ≤ 255)
    (hbody : body (s.taken dt f) = ((s.taken dt f).modAcct fun u => u.setBlocked n b).acceptQuiet) :
    ∃ t, s.request dt f code body = .next t ∧
      t = { s with
            now := s.now + dt, acct := { s.acct with accounts := t.acct.accounts }, links := t.links, event := .blank } ∧
      LinksReplied s t dt f code .ok .none ∧
      ∀ m, t.account m = if m = n then { s.account n with blocked := b } else s.account m := by
  obtain ⟨t, hnext, ht, hlinks⟩ := ApproachQueues.quiet_answers (code := code) hr hbody rfl rfl
  have hacct : t.acct = s.acct.setBlocked n b := congrArg State.acct ht
  refine ⟨t, hnext, ?_, hlinks, fun m => ?_⟩
  · rw [hacct]
    exact ht
  · rw [State.account, hacct]
    exact setBlocked_account (s := s) (by omega) b m

theorem takeRecord_takes {dt : Nat} {f : Frame} {s : State} {x : Option Nat} {r : ChargeRecord} {rs : List ChargeRecord}
    (hr : Ready s f) (hlen : f.lengthMatches = true) (hf : f.link = .toll) (hj : s.acct.journal = r :: rs)
    (hx : x = none ∨ x = some r.serial) :
    ∃ t, exec (.takeRecord dt f x) s = .next t ∧
      t = { s with now := s.now + dt, acct := { s.acct with journal := rs }, links := t.links, event := .blank } ∧
      LinksReplied s t dt f 29 .ok (.record (recordBytes r) rs.length) := by
  refine ApproachQueues.quiet_answers (code := 29) (body := takeRecordBody f x)
    (u := (s.taken dt f).modAcct fun u => { u with journal := rs }) hr ?_ rfl rfl
  have hj' : (s.taken dt f).acct.journal = r :: rs := hj
  have hx' : (decide (x = none) || decide (x = some r.serial)) = true := by simpa using hx
  simp only [takeRecordBody, isToll_of_toll hf, hlen, hj', hx', WaterLevels.check_of_true]

/-- A serial that is not the oldest record's is refused (R175). -/
theorem takeRecord_refuses {dt : Nat} {f : Frame} {s : State} {n : Nat} {r : ChargeRecord} {rs : List ChargeRecord}
    (hr : Ready s f) (hlen : f.lengthMatches = true) (hf : f.link = .toll) (hj : s.acct.journal = r :: rs) (hn : n ≠ r.serial) :
    OnlyAnswered s dt f 29 .condition .none (exec (.takeRecord dt f (some n)) s) := by
  refine refused_onlyAnswered (body := takeRecordBody f (some n)) hr ?_
  have hj' : (s.taken dt f).acct.journal = r :: rs := hj
  have hn' : (decide (some n = none) || decide (some n = some r.serial)) = false := by simpa using hn
  simp only [takeRecordBody, isToll_of_toll hf, hlen, hj', hn', WaterLevels.check_of_true]
  rfl

theorem closePeriodBody_closes {f : Frame} (hlen : f.lengthMatches = true) (hf : f.link = .toll) (s : State) :
    closePeriodBody f s = s.closePeriod.acceptQuiet (.closedPeriod s.acct.period) := by
  rw [closePeriodBody, isToll_of_toll hf, hlen]
  rfl

/-- Settles O16: each request passes its checks and leaves the state that it writes; the close tells the toll office. -/
theorem accountRequestsAct : Obligations.AccountRequestsAct := by
  intro dt f s hr hlen hf
  refine ⟨fun n hlength hn => ?_, fun r rs hj => ⟨fun x hx => takeRecord_takes hr hlen hf hj hx,
    fun n hn => takeRecord_refuses hr hlen hf hj hn⟩, ?_⟩
  · refine ⟨fun hlow => setBlocked_answers hr hlength hn (body := blockAccountBody f n) ?_,
      setBlocked_answers hr hlength hn (body := unblockAccountBody f n) ?_⟩
    · simp only [blockAccountBody, natIn, isToll_of_toll hf, hlen, hlow, hn, decide_true, Bool.and_self,
        WaterLevels.check_of_true]
    · simp only [unblockAccountBody, isToll_of_toll hf, hlen, hn, decide_true, Bool.and_self, WaterLevels.check_of_true]
  · obtain ⟨t, hnext, ht, hlinks, hnotice⟩ :=
      ClockAndTariffs.quiet_served (code := 30) hr (closePeriodBody_closes hlen hf (s.taken dt f)) rfl
    have hperiod : t.acct.period = nextPeriod s.acct.period := congrArg (·.acct.period) ht
    refine ⟨t, hnext, ht, hlinks, ?_⟩
    rw [hperiod]
    exact hnotice _ .toll rfl rfl rfl

end Sys2Proof.Machine.AccountsAndPeriods

/-! ## Period totals and saturated flags only grow (R168)

Accounts are written by postings, by the toll office's three requests and by a cold start. Raising is stated so that it needs no bound
on the accounts: it is then reflexive and transitive along a whole step. -/

namespace Sys2Proof.Machine.AccountsAndPeriods

open RetainedBlocks

/-! ### Raised and zeroed accounts -/

/-- An account's total is no less, as far as the bound lets a total count, and its saturated flag has not cleared (R168). -/
def RaisedTo (a b : Account) : Prop :=
  min periodTotalBound a.total ≤ b.total ∧ (a.saturated = true → b.saturated = true)

theorem RaisedTo.refl (a : Account) : RaisedTo a a := ⟨Nat.min_le_right .., id⟩

theorem RaisedTo.trans {a b c : Account} (h : RaisedTo a b) (k : RaisedTo b c) : RaisedTo a c :=
  ⟨(Nat.le_min.mpr ⟨Nat.min_le_left .., h.1⟩).trans k.1, fun ha => k.2 (h.2 ha)⟩

theorem raisedTo_add (a : Account) (amount : Nat) (counted : Bool) (t : LockTime) : RaisedTo a (a.add amount counted t) := by
  refine ⟨?_, fun ha => ?_⟩
  · rw [Account.add_total]
    omega
  · rw [Account.add_saturated, ha, Bool.true_or]

/-- Every account of a unit is raised. -/
def UnitRaised (u v : AccountingUnit) : Prop := ∀ n, RaisedTo (u.accounts.getD n .initial) (v.accounts.getD n .initial)

theorem UnitRaised.refl (u : AccountingUnit) : UnitRaised u u := fun _ => .refl _

theorem UnitRaised.trans {u v w : AccountingUnit} (h : UnitRaised u v) (k : UnitRaised v w) : UnitRaised u w :=
  fun n => (h n).trans (k n)

theorem unitRaised_modify (u : AccountingUnit) {g : Account → Account} (hg : ∀ a, RaisedTo a (g a)) (n : Nat) :
    UnitRaised u { u with accounts := u.accounts.modify n g } := by
  intro m
  simp only [List.getD_eq_getElem?_getD, List.getElem?_modify]
  cases u.accounts[m]? with
  | none => exact .refl _
  | some a =>
    by_cases hm : n = m
    · simpa [hm] using hg a
    · simpa [hm] using RaisedTo.refl a

theorem unitRaised_charge (u : AccountingUnit) (n amount : Nat) (counted : Bool) (t : LockTime) :
    UnitRaised u (u.charge n amount counted t) :=
  unitRaised_modify u (fun a => raisedTo_add a amount counted t) n

theorem unitRaised_post (u : AccountingUnit) (r : ChargeRecord) : UnitRaised u (u.post r) := by
  refine .trans ?_ (unitRaised_charge _ 0 r.unallocated false r.finalized)
  refine List.foldlRecOn r.entries _ (UnitRaised.refl u) fun v hv e _ => hv.trans ?_
  unfold AccountingUnit.chargeEntry
  split_ifs
  · exact .refl v
  · exact unitRaised_charge v e.account e.total true r.finalized

/-- Every account of `s` is raised in `t`. -/
def Raised (s t : State) : Prop := UnitRaised s.acct t.acct

theorem Raised.refl (s : State) : Raised s s := UnitRaised.refl _

theorem Raised.trans {s t u : State} (h : Raised s t) (k : Raised t u) : Raised s u := UnitRaised.trans h k

theorem Raised.of_acct {s t : State} (h : t.acct = s.acct) : Raised s t := by
  rw [Raised, h]
  exact .refl _

/-- Of the entries in the books a posting adds to the accounts, and no other writes them. -/
theorem raised_of_entered {s t : State} (h : Entered s t) : Raised s t := by
  refine h.induct (fun b => UnitRaised s.acct b.acct) (fun b d hentry hb => hb.trans ?_) (.refl _)
  cases hentry with
  | reserve | release | serial | discard => exact .refl _
  | post c r => exact unitRaised_post b.acct r

/-- In a state that keeps the bounds no total has decreased. -/
theorem Raised.grows {s t : State} (h : Raised s t) (hs : AccountsBounded s) (n : Nat) :
    (s.account n).total ≤ (t.account n).total ∧ ((s.account n).saturated = true → (t.account n).saturated = true) := by
  obtain ⟨htotal, hflag⟩ := h n
  obtain ⟨-, haccounts, -⟩ := hs
  have hbound : (s.account n).total ≤ periodTotalBound := by
    rw [State.account, List.getD_eq_getElem?_getD]
    cases ha : s.acct.accounts[n]? with
    | none => exact Nat.zero_le _
    | some a => exact (haccounts a (List.mem_of_getElem? ha)).1
  exact ⟨by rwa [← min_eq_right hbound], hflag⟩

/-- Every total and every saturated flag stands at zero. -/
def Zeroed (t : State) : Prop := ∀ n, (t.account n).total = 0 ∧ (t.account n).saturated = false

theorem Zeroed.of_acct {s t : State} (h : Zeroed s) (hacct : t.acct = s.acct) : Zeroed t := fun n => by
  rw [State.account, hacct]
  exact h n

/-- A close zeroes every account (R177). -/
theorem zeroed_closePeriod (s : State) : Zeroed s.closePeriod := by
  intro n
  have haccounts : s.closePeriod.acct.accounts =
      s.acct.accounts.map fun a => { a with total := 0, saturated := false, count := 0 } := rfl
  rw [State.account, haccounts, List.getD_eq_getElem?_getD, List.getElem?_map]
  cases s.acct.accounts[n]? <;> exact ⟨rfl, rfl⟩

/-- So does a cold start (R166). -/
theorem zeroed_coldRetained (s : State) : Zeroed s.coldRetained := by
  intro n
  have haccounts : s.coldRetained.acct.accounts = List.replicate accountTableSize .initial := rfl
  rw [State.account, haccounts, List.getD_eq_getElem?_getD, List.getElem?_replicate]
  split_ifs <;> exact ⟨rfl, rfl⟩

end Sys2Proof.Machine.AccountsAndPeriods

/-! ## What a request may enter in the books -/

namespace Sys2Proof.Machine.AccountsAndPeriods

open RetainedBlocks

theorem check_entered {s : State} {ok : Bool} {r : Result} {a : Answer} (h : Entered s a.state) :
    Entered s (s.check ok r a).state := by
  cases ok
  · exact .refl s
  · exact h

@[simp] theorem refuse_entered (s : State) (r : Result) : Entered s (s.refuse r).state := .refl s

theorem asHolder_entered {s : State} {f : Frame} {c : Option Chamber} {body : Chamber → Answer}
    (h : ∀ c, Entered s (body c).state) : Entered s (s.asHolder f c body).state := by
  unfold State.asHolder
  split
  · exact .refl s
  · split
    · exact .refl s
    · split_ifs
      · exact h _
      · exact .refl s

section
variable (f : Frame) (c : Option Chamber) (s : State)

/-! ### Authority -/

@[simp] theorem claimBody_entered : Entered s (claimBody f c s).state := by
  unfold claimBody
  split
  · exact .refl s
  · exact .refl s
  · exact check_entered (.of_eq (claimBy_books ..))

@[simp] theorem releaseBody_entered : Entered s (releaseBody f c s).state := by
  unfold releaseBody
  split
  · exact .refl s
  · exact .refl s
  · split
    · exact .refl s
    · next h => exact check_entered (.of_eq (releaseBy_books h))

@[simp] theorem presentBody_entered : Entered s (presentBody f s).state := check_entered (check_entered (.refl s))

@[simp] theorem seizeBody_entered : Entered s (seizeBody f c s).state := by
  refine check_entered ?_
  cases c with
  | none => exact .refl s
  | some c => exact check_entered (.of_eq (seizeBy_books s c))

/-! ### Commands to a chamber -/

@[simp] theorem startLockageBody_entered (d : Option Direction) : Entered s (startLockageBody f c d s).state := by
  refine asHolder_entered fun c => check_entered (check_entered ?_)
  cases d with
  | none => exact .refl s
  | some d => exact check_entered (enterForming_entered s c d [])

@[simp] theorem addVesselBody_entered (h : Nat) (m : Option Mark) : Entered s (addVesselBody f c h m s).state := by
  refine asHolder_entered fun c => check_entered ?_
  split
  · exact .refl s
  · refine check_entered (check_entered (check_entered ?_))
    split
    · next ht => exact tryTake_entered ht
    · exact .refl s

@[simp] theorem closeEntryBody_entered (list : List (Nat × Option Mark)) : Entered s (closeEntryBody f c list s).state := by
  refine asHolder_entered fun c => check_entered (check_entered ?_)
  split
  · exact .refl s
  · exact (closeList_entered s c _).trans (.of_eq (enterPhase_books _ c .entryClosing))

@[simp] theorem exitDoneBody_entered : Entered s (exitDoneBody f c s).state :=
  asHolder_entered fun c => check_entered (check_entered
    ((Entered.of_eq (deletePlan_books s c)).trans (enterIdle_entered _ c)))

@[simp] theorem holdBody_entered : Entered s (holdBody f c s).state :=
  asHolder_entered fun c => check_entered (check_entered (.of_eq (holdOrder_books s c .commanded)))

theorem resume_books (c : Chamber) : books (s.resume c) = books s := by
  unfold State.resume
  split
  · simp
  · rfl

@[simp] theorem resumeBody_entered : Entered s (resumeBody f c s).state :=
  asHolder_entered fun c => check_entered (check_entered (check_entered (.of_eq (resume_books s c))))

@[simp] theorem abandonBody_entered : Entered s (abandonBody f c s).state :=
  asHolder_entered fun c => check_entered (check_entered (check_entered (abandon_entered s c)))

theorem acknowledge_books (c : Chamber) : books (s.acknowledge c) = books s :=
  (foldl_books queryFaulted_books _ _).trans (modSeq_books_of_lockage s c _ fun _ => rfl)

@[simp] theorem acknowledgeFaultBody_entered : Entered s (acknowledgeFaultBody f c s).state := by
  cases c with
  | none => exact .refl s
  | some c =>
    exact asHolder_entered fun c => check_entered (check_entered (check_entered (.of_eq (acknowledge_books s c))))

@[simp] theorem acknowledgeFaultCrossBody_entered : Entered s (acknowledgeFaultCrossBody f s).state :=
  check_entered (check_entered (check_entered (.of_eq ((statusQuery_books _ .xv).trans rfl))))

@[simp] theorem acknowledgeBody_entered (x : Contents) : Entered s (acknowledgeBody f x s).state := by
  unfold acknowledgeBody
  split_ifs
  · exact acknowledgeFaultCrossBody_entered f s
  · exact acknowledgeFaultBody_entered f _ s

theorem setMode_books (c : Chamber) (m : StepMode) : books (s.setMode c m) = books s := by
  cases m <;> simp [State.setMode]

@[simp] theorem setModeBody_entered (m : Option StepMode) : Entered s (setModeBody f c m s).state := by
  refine asHolder_entered fun c => check_entered (check_entered ?_)
  cases m with
  | none => exact .refl s
  | some m => exact .of_eq (setMode_books s c m)

@[simp] theorem advanceBody_entered : Entered s (advanceBody f c s).state :=
  asHolder_entered fun c => check_entered (check_entered (check_entered (.of_eq (releaseStep_books s c))))

@[simp] theorem setServiceBody_entered (v : Option Service) : Entered s (setServiceBody f c v s).state := by
  refine asHolder_entered fun c => ?_
  cases v with
  | none => exact check_entered (.refl s)
  | some v =>
    cases v with
    | out => exact check_entered (check_entered (.of_eq (enterPhase_books s c .outOfService)))
    | into => exact check_entered (check_entered (check_entered (.of_eq (enterPhase_books s c .idle))))

@[simp] theorem setAdmissionBody_entered (n : Nat) : Entered s (setAdmissionBody f c n s).state :=
  asHolder_entered fun _ => check_entered (check_entered (.of_eq rfl))

/-! ### The desk -/

@[simp] theorem clearLockoutBody_entered : Entered s (clearLockoutBody f c s).state := by
  refine check_entered ?_
  cases c with
  | none => exact .refl s
  | some c => exact check_entered (check_entered (.of_eq (clearLockout_books s c)))

@[simp] theorem lampCheckBody_entered : Entered s (lampCheckBody f s).state := check_entered (check_entered (.of_eq rfl))

@[simp] theorem loadConfigurationBody_entered (block : List Byte) (x : StoreAnswer) :
    Entered s (loadConfigurationBody f block x s).state := by
  refine check_entered (check_entered (check_entered ?_))
  unfold State.writeConfiguration
  dsimp only
  split_ifs <;> exact .of_eq rfl

/-! ### Vessels -/

theorem withEmergency_entered {s u : State} (v : Vessel) (d : ReplyData) (h : books u = books s) :
    Entered s (u.withEmergency v d).state := by
  unfold State.withEmergency
  split_ifs
  · exact (Entered.of_eq h).trans (handleEmergency_entered u v.handle)
  · exact .of_eq h

@[simp] theorem registerVesselBody_entered (r : Registration) : Entered s (registerVesselBody f r s).state := by
  refine check_entered ?_
  split
  · refine check_entered (check_entered (check_entered (check_entered (check_entered ?_))))
    split
    · exact .refl s
    · exact withEmergency_entered _ _ rfl
  · exact .refl s

@[simp] theorem amendVesselBody_entered (h : Nat) (m : Option Mark) (a : Amendment) : Entered s (amendVesselBody f h m a s).state := by
  refine check_entered ?_
  split
  · exact .refl s
  · refine check_entered ?_
    unfold State.amendChecked
    split
    · exact .refl s
    · exact check_entered (check_entered (check_entered (check_entered (withEmergency_entered _ _ rfl))))

@[simp] theorem withdrawVesselBody_entered (h : Nat) (m : Option Mark) : Entered s (withdrawVesselBody f h m s).state := by
  refine check_entered ?_
  split
  · exact .refl s
  · exact check_entered (check_entered (withdraw_entered s _))

@[simp] theorem readVesselBody_entered (h : Nat) (m : Option Mark) : Entered s (readVesselBody f h m s).state := by
  unfold readVesselBody
  split
  · exact .refl s
  · exact check_entered (.refl s)

@[simp] theorem readQueueBody_entered (e : Option End) (n : Nat) : Entered s (readQueueBody f e n s).state := by
  cases e with
  | none => exact .refl s
  | some e => exact check_entered (.refl s)

/-! ### Tariffs, accounts and status -/

@[simp] theorem loadTariffBody_entered (t : Tariff) (i : Option Instant) : Entered s (loadTariffBody f t i s).state := by
  refine check_entered (check_entered (check_entered ?_))
  cases i <;> exact .of_eq rfl

@[simp] theorem readTariffBody_entered (x : Option Slot) : Entered s (readTariffBody f x s).state := by
  cases x with
  | none => exact .refl s
  | some x =>
    refine check_entered ?_
    split <;> exact .refl s

@[simp] theorem peekRecordBody_entered : Entered s (peekRecordBody f s).state := by
  refine check_entered (check_entered ?_)
  split <;> exact .refl s

@[simp] theorem readPeriodImageBody_entered (n : Nat) : Entered s (readPeriodImageBody f n s).state := by
  refine check_entered (check_entered ?_)
  split <;> exact .refl s

@[simp] theorem readAccountBody_entered (n : Nat) : Entered s (readAccountBody f n s).state := check_entered (.refl s)

@[simp] theorem readStatusBody_entered (which : Nat) : Entered s (readStatusBody f which s).state := by
  unfold readStatusBody
  split
  · exact .refl s
  · exact check_entered (.refl s)

end

end Sys2Proof.Machine.AccountsAndPeriods

/-! ## Requests and the accounts -/

namespace Sys2Proof.Machine.AccountsAndPeriods

open RetainedBlocks

/-! ### Requests by which the offices write the retained blocks -/

theorem check_raised {s : State} {ok : Bool} {r : Result} {a : Answer} (h : Raised s a.state) :
    Raised s (s.check ok r a).state := by
  cases ok
  · exact .refl s
  · exact h

@[simp] theorem setTimeBody_raised (f : Frame) (day second weekday : Nat) (s : State) :
    Raised s (setTimeBody f day second weekday s).state :=
  check_raised (check_raised (.of_acct rfl))

theorem raised_setBlocked (s : State) (n : Nat) (b : Bool) : Raised s (s.modAcct fun u => u.setBlocked n b) :=
  unitRaised_modify s.acct (g := fun a => { a with blocked := b }) (fun a => RaisedTo.refl a) n

@[simp] theorem blockAccountBody_raised (f : Frame) (n : Nat) (s : State) : Raised s (blockAccountBody f n s).state :=
  check_raised (check_raised (raised_setBlocked s n true))

@[simp] theorem unblockAccountBody_raised (f : Frame) (n : Nat) (s : State) : Raised s (unblockAccountBody f n s).state :=
  check_raised (check_raised (raised_setBlocked s n false))

@[simp] theorem takeRecordBody_raised (f : Frame) (x : Option Nat) (s : State) : Raised s (takeRecordBody f x s).state := by
  refine check_raised (check_raised ?_)
  split
  · exact .refl s
  · exact check_raised (.refl s)

/-- CLOSE PERIOD is refused, or the toll office closes the period and no other block reacts (R177). -/
theorem closePeriodBody_cases (f : Frame) (s : State) :
    (∃ r, closePeriodBody f s = s.refuse r) ∨
      (f.link = .toll ∧ closePeriodBody f s = s.closePeriod.acceptQuiet (.closedPeriod s.acct.period)) := by
  by_cases hf : f.link = .toll
  · cases hlen : f.lengthMatches with
    | true => exact .inr ⟨hf, closePeriodBody_closes hlen hf s⟩
    | false =>
      refine .inl ⟨.badValue, ?_⟩
      rw [closePeriodBody, isToll_of_toll hf, hlen]
      rfl
  · refine .inl ⟨.notPermitted, ?_⟩
    rw [closePeriodBody, Link.isToll, decide_eq_false hf]
    rfl

/-- A request of any other kind code raises the accounts. -/
theorem requestBody_raised {code : Byte} (h : code.toNat ≠ 30) (f : Frame) (contents : List Byte) (x : Contents) (s : State) :
    Raised s (requestBody code f contents x s).state := by
  unfold requestBody
  split
  case h_29 hcode => exact absurd hcode h
  all_goals simp [raised_of_entered]

/-! ### Frames at a link port -/

theorem finish_raised (s : State) : Raised s s.finish := raised_of_entered (finish_entered s)

theorem finishQuiet_raised (s : State) : Raised s s.finishQuiet := .of_acct (finishQuiet_acct s)

theorem meetSlots_raised {s : State} {f : Frame} {code : Byte} {body : State → Answer} (h : Raised s (body s).state) :
    Raised s (s.meetSlots f code body) := by
  unfold State.meetSlots
  split
  · rw [place_eq]
    split_ifs
    · exact h.trans (finish_raised ((body s).state.replied f code _ _))
    · exact h.trans (finishQuiet_raised ((body s).state.replied f code _ _))
  · exact .of_acct (finishQuiet_acct _)
  · exact finishQuiet_raised s

/-- CLOSE PERIOD at a port: the accounts are raised or, at the toll office's port alone, zeroed. -/
theorem meetSlots_closePeriod (s : State) (f : Frame) :
    Raised s (s.meetSlots f 30 (closePeriodBody f)) ∨ (f.link = .toll ∧ Zeroed (s.meetSlots f 30 (closePeriodBody f))) := by
  rcases closePeriodBody_cases f s with ⟨r, hrefused⟩ | ⟨hf, hclosed⟩
  · refine .inl (meetSlots_raised ?_)
    rw [hrefused]
    exact .refl s
  · unfold State.meetSlots
    split
    · refine .inr ⟨hf, (zeroed_closePeriod s).of_acct ?_⟩
      rw [hclosed]
      exact finishQuiet_acct _
    · exact .inl (.of_acct (finishQuiet_acct _))
    · exact .inl (finishQuiet_raised s)

/-- After a valid frame has met its port's slots the reply slot is taken (R184). -/
theorem meetSlots_reply (s : State) (f : Frame) (code : Byte) (body : State → Answer) :
    ((s.meetSlots f code body).port f.link).reply ≠ none := by
  have hreplied (u : State) (r : Result) (d : ReplyData) : ((u.replied f code r d).port f.link).reply ≠ none := by
    simp [State.replied, State.modPort, State.port]
  unfold State.meetSlots
  split
  · rw [place_eq]
    split_ifs
    · rw [(finish_port _ f.link).keeps.1]
      exact hreplied (body s).state _ _
    · rw [(finishQuiet_port _ f.link).keeps.1]
      exact hreplied (body s).state _ _
  · next hreply _ =>
    rw [State.answerBusy, (finishQuiet_port _ f.link).keeps.1]
    simp only [State.port] at hreply
    simp [State.modPort, State.port, hreply]
  · next hreply _ =>
    rw [(finishQuiet_port _ f.link).keeps.1, hreply]
    exact Option.some_ne_none _

/-- While the reply slot is taken, no frame is carried out (R184). -/
theorem meetSlots_acct_of_reply {s : State} {f : Frame} (h : (s.port f.link).reply ≠ none) (code : Byte) (body : State → Answer) :
    (s.meetSlots f code body).acct = s.acct := by
  unfold State.meetSlots
  split
  · next hreply => exact absurd hreply h
  · exact finishQuiet_acct _
  · exact finishQuiet_acct s

section
variable (l : Link) (bytes : List ArrivedByte)

theorem takeHeard_reply (s : State) (h : Heard) : ((s.takeHeard l bytes h).port l).reply ≠ none :=
  meetSlots_reply _ ⟨l, h.tag, _⟩ h.kind _

theorem takeHeard_acct_of_reply {s : State} (hs : (s.port l).reply ≠ none) (h : Heard) :
    (s.takeHeard l bytes h).acct = s.acct := by
  refine (meetSlots_acct_of_reply ?_ ..).trans rfl
  simpa [State.hearAt, State.modPort, State.port, LinkPort.received] using hs

/-- So of the frames found among discarded bytes only the first can be carried out. -/
theorem takeHeards_acct_of_reply (hs : List Heard) {s : State} (h : (s.port l).reply ≠ none) :
    (hs.foldl (State.takeHeard l bytes) s).acct = s.acct := by
  induction hs generalizing s with
  | nil => rfl
  | cons x hs ih => exact (ih (takeHeard_reply l bytes s x)).trans (takeHeard_acct_of_reply l bytes h x)

theorem takeHeard_raised_or_zeroed (s : State) (h : Heard) :
    Raised s (s.takeHeard l bytes h) ∨ (h.kind = 30 ∧ l = .toll ∧ Zeroed (s.takeHeard l bytes h)) := by
  obtain ⟨kind, tag, contents, left⟩ := h
  by_cases hkind : kind.toNat = 30
  · obtain rfl : kind = 30 := BitVec.eq_of_toNat_eq hkind
    exact (meetSlots_closePeriod ((s.beginEvent 0).hearAt l _) _).imp id fun ⟨hl, hzero⟩ => ⟨rfl, hl, hzero⟩
  · exact .inl (meetSlots_raised (s := (s.beginEvent 0).hearAt l _) (requestBody_raised hkind _ contents _ _))

/-- A discarded attempt zeroes the accounts only by a CLOSE PERIOD found first among its bytes, at the toll office's port (R183). -/
theorem discardFrame_raised_or_zeroed (s : State) (gap : Bool) :
    Raised s (s.discardFrame l gap bytes) ∨
      ((∃ h, h.kind = 30 ∧ (searchAgain gap (bytes.map (·.value))).1.head? = some h) ∧ l = .toll ∧
        Zeroed (s.discardFrame l gap bytes)) := by
  unfold State.discardFrame
  dsimp only
  split_ifs
  · exact .inl (.of_acct rfl)
  · cases (searchAgain gap (bytes.map (·.value))).1 with
    | nil => exact .inl (finishQuiet_raised s)
    | cons h hs =>
      have hlater := takeHeards_acct_of_reply l bytes hs (takeHeard_reply l bytes s.finishQuiet h)
      refine (takeHeard_raised_or_zeroed l bytes s.finishQuiet h).imp (fun hraised => ?_) fun ⟨hkind, hl, hzero⟩ => ?_
      · exact ((finishQuiet_raised s).trans hraised).trans (.of_acct hlater)
      · exact ⟨⟨h, hkind, rfl⟩, hl, hzero.of_acct hlater⟩

end

end Sys2Proof.Machine.AccountsAndPeriods

/-! ## Every step raises the accounts, or a close or a cold start zeroes them -/

namespace Sys2Proof.Machine.AccountsAndPeriods

open RetainedBlocks

/-! ### Events of the field and of the part's own timers -/

theorem when_raised {s u : State} (due : Bool) (h : Raised s u) : Raised s (s.when due u) := by
  cases due
  · exact .of_acct rfl
  · exact h

/-- What leaves the books raises the accounts by the reactions to it alone. -/
theorem finish_raised_of_books {s u : State} (h : books u = books s) : Raised s u.finish :=
  (raised_of_entered (.of_eq h)).trans (finish_raised u)

theorem driveAnswer_raised (s : State) (address : Nat) (want : Task → Bool) (a : DriveAnswer) :
    Raised s (s.driveAnswer address want a) := by
  unfold State.driveAnswer
  split
  · exact when_raised _ (finish_raised_of_books (answered_books s _ _ a))
  · exact .of_acct rfl

theorem sampleEvent_raised (s : State) (m : PerHead (PerLamp Bool)) : Raised s (s.sampleEvent m) := by
  have hsample : books (s.lampSample m) = books s := (foldl_books produce_books _ _).trans rfl
  unfold State.sampleEvent
  split_ifs
  · exact finish_raised_of_books hsample
  · exact (raised_of_entered (.of_eq hsample)).trans (finishQuiet_raised _)

theorem tick_acct (s : State) : s.tick.acct = s.acct := by
  unfold State.tick
  split_ifs
  · rfl
  · rw [finishQuiet_acct, ClockAndTariffs.switchTest_eq]
    rfl
  · rfl

theorem frameOut_acct (s : State) (l : Link) : (s.frameOut l).acct = s.acct := by
  unfold State.frameOut
  split_ifs
  · rfl
  · exact finishQuiet_acct _

/-- The release of a part that lost its main power and whose retained domain is invalid zeroes the accounts; any other start keeps
them (R181, R202). -/
theorem startPart_raised_or_zeroed (s : State) :
    Raised s s.startPart ∨ ((s.start.hold.powerLost = true ∧ s.start.retainedValid = false) ∧ Zeroed s.startPart) := by
  unfold State.startPart
  dsimp only
  split_ifs with hcold
  · refine .inr ⟨?_, (zeroed_coldRetained s).of_acct rfl⟩
    unfold Hold.kind at hcold
    split_ifs at hcold with hlost hvalid
    exact ⟨hlost, Bool.eq_false_iff.mpr hvalid⟩
  · exact .inl fun n => .refl _

/-! ### Whole commands -/

theorem raised_after_request {s t : State} {dt : Nat} {f : Frame} {code : Byte} {body : State → Answer}
    (h : s.request dt f code body = .next t) (hb : ∀ u, Raised u (body u).state) : Raised s t := by
  injection h with h
  subst h
  split_ifs
  · exact .of_acct rfl
  · exact meetSlots_raised (s := s.taken dt f) (hb _)

theorem raised_after_event {s t : State} {dt : Nat} {body : State → State} (h : s.event? dt body = .next t)
    (hb : ∀ u, Raised u (body u)) : Raised s t := by
  injection h with h
  subst h
  split_ifs
  · exact .of_acct rfl
  · exact hb (s.beginEvent dt)

/-- An event that other blocks react to, and whose own effect leaves the books. -/
theorem raised_after_finish {s t : State} {dt : Nat} {due : State → Bool} {op : State → State}
    (h : (s.event? dt fun u => u.when (due u) (op u).finish) = .next t) (hop : ∀ u, books (op u) = books u) : Raised s t :=
  raised_after_event h fun u => when_raised _ (finish_raised_of_books (hop u))

/-- An event that no other block reacts to, and that leaves the accounting unit. -/
theorem raised_after_finishQuiet {s t : State} {dt : Nat} {due : State → Bool} {op : State → State}
    (h : (s.event? dt fun u => u.when (due u) (op u).finishQuiet) = .next t) (hop : ∀ u, (op u).acct = u.acct) : Raised s t :=
  raised_after_event h fun u => when_raised _ (.of_acct ((finishQuiet_acct _).trans (hop u)))

/-- A command of the part itself, carried out while it is held as well, that leaves the accounting unit. -/
theorem raised_after_own {s t u : State} {dt : Nat} {due : Bool}
    (h : (.next ((s.beginEvent dt).when due u) : Outcome) = .next t) (hu : u.acct = s.acct) : Raised s t := by
  injection h with h
  subst h
  exact when_raised (s := s.beginEvent dt) due (.of_acct hu)

/-- The commands that may zero the accounts, each with its condition (R177, R183, R202). -/
def mayZero (c : Instr) (s : State) : Prop :=
  (∃ dt f, c = .closePeriod dt f) ∨
    ((∃ dt, c = .partReleased dt) ∧ s.start.hold.powerLost = true ∧ s.start.retainedValid = false) ∨ findsFirst c .toll 30

theorem closePeriod_raised_or_zeroed {s t : State} {dt : Nat} {f : Frame} (h : exec (.closePeriod dt f) s = .next t) :
    Raised s t ∨ Zeroed t := by
  injection h with h
  subst h
  split_ifs
  · exact .inl (.of_acct rfl)
  · exact (meetSlots_closePeriod (s.taken dt f) f).imp id And.right

theorem partReleased_raised_or_zeroed {s t : State} {dt : Nat} (h : exec (.partReleased dt) s = .next t) :
    Raised s t ∨ ((s.start.hold.powerLost = true ∧ s.start.retainedValid = false) ∧ Zeroed t) := by
  injection h with h
  subst h
  cases (s.beginEvent dt).releasable with
  | false => exact .inl (.of_acct rfl)
  | true => exact startPart_raised_or_zeroed (s.beginEvent dt)

theorem discarded_raised_or_zeroed {s t : State} {dt : Nat} {l : Link} {gap : Bool} {bytes : List ArrivedByte}
    (h : (s.event? dt fun u => u.discardFrame l gap bytes) = .next t) :
    Raised s t ∨
      ((∃ x, x.kind = 30 ∧ (searchAgain gap (bytes.map (·.value))).1.head? = some x) ∧ l = .toll ∧ Zeroed t) := by
  injection h with h
  subst h
  split_ifs
  · exact .inl (.of_acct rfl)
  · exact discardFrame_raised_or_zeroed l bytes (s.beginEvent dt) gap

/-- Every command raises the accounts: a request by its answer and the reactions, an event by the reactions alone; or it is one of
those that may zero them. -/
theorem exec_raised_or_zeroed {c : Instr} {s t : State} (h : exec c s = .next t) : Raised s t ∨ (mayZero c s ∧ Zeroed t) := by
  unfold exec at h
  cases c with
  | closePeriod dt f => exact (closePeriod_raised_or_zeroed h).imp id fun hzero => ⟨.inl ⟨dt, f, rfl⟩, hzero⟩
  | partReleased dt =>
    exact (partReleased_raised_or_zeroed h).imp id fun ⟨hcold, hzero⟩ => ⟨.inr (.inl ⟨⟨dt, rfl⟩, hcold⟩), hzero⟩
  | frameInvalid dt l bytes =>
    refine (discarded_raised_or_zeroed h).imp id fun ⟨⟨x, hkind, hhead⟩, hl, hzero⟩ => ⟨.inr (.inr ?_), hzero⟩
    subst hl
    exact ⟨dt, bytes, x, hkind, .inl ⟨rfl, hhead⟩⟩
  | frameGapTimeout dt l bytes =>
    refine (discarded_raised_or_zeroed h).imp id fun ⟨⟨x, hkind, hhead⟩, hl, hzero⟩ => ⟨.inr (.inr ?_), hzero⟩
    subst hl
    exact ⟨dt, bytes, x, hkind, .inr ⟨rfl, hhead⟩⟩
  | claim | release | present | seize | startLockage | addVessel | closeEntry | exitDone | hold | resume | abandon
  | acknowledgeFault | acknowledgeFaultCross | setMode | advance | setService | setAdmission | clearLockout | lampCheck
  | loadConfiguration | registerVessel | amendVessel | withdrawVessel | setTime | loadTariff | blockAccount | unblockAccount
  | peekRecord | takeRecord | readPeriodImage | readStatus | readVessel | readQueue | readTariff | readAccount =>
    exact .inl (raised_after_request h fun u => by simp [raised_of_entered])
  | unknownCommand dt l code tag =>
    change (if isRequestCode code then s.event? dt State.rest
      else s.request dt ⟨l, tag, true⟩ code fun s => s.refuse .unknownCommand) = .next t at h
    split_ifs at h
    · exact .inl (raised_after_event h fun _ => .of_acct rfl)
    · exact .inl (raised_after_request h fun u => .refl u)
  | holderSilence | claimantSilence | travelDeadlineExpiry | limitInputChange | sillBeamClear | limitConflict | crossConflict
  | scanCompletion | levelTimeout | levelLost | crossWaitExpiry | crossExchangeExpiry | configReadEnd | censusQueries =>
    exact .inl (raised_after_finish h fun u => by simp)
  | busyLink | frameDiscardedSlotsFull | limitConflictRearm | crossConflictRearm | scanStart | doneInputChange =>
    exact .inl (raised_after_finishQuiet h fun _ => rfl)
  | deadTimeExpiry => exact .inl (raised_after_finishQuiet h fun u => congrArg Books.acct (dispatch_books u))
  | startAnswer | stopAnswer | statusReply => exact .inl (raised_after_event h fun u => driveAnswer_raised u _ _ _)
  | driveAnswerTimeout =>
    refine .inl (raised_after_event h fun u => ?_)
    split
    · exact finish_raised_of_books (unanswered_books ..)
    · exact .of_acct rfl
  | driveFrameDiscarded =>
    refine .inl (raised_after_event h fun u => ?_)
    split
    · exact driveAnswer_raised u _ _ _
    · exact .of_acct rfl
  | doneEvent =>
    refine .inl (raised_after_event h fun u => when_raised _ ?_)
    split_ifs
    · exact finish_raised_of_books (by simp [State.doneTaken])
    · exact .of_acct (finishQuiet_acct _)
  | sillBeamBreak =>
    refine .inl (raised_after_event h fun u => when_raised _ ?_)
    split_ifs <;> exact finish_raised_of_books (by simp)
  | lampLatch | lampStray | lampCurrentSample =>
    exact .inl (raised_after_event h fun u => when_raised _ (sampleEvent_raised u _))
  | frameSent => exact .inl (raised_after_event h fun u => when_raised _ (.of_acct (frameOut_acct u _)))
  | clockTick dt =>
    injection h with h
    exact .inl (h ▸ .of_acct (tick_acct (s.beginEvent dt)))
  | resetLineHeld | mainPowerHeld | batteryLow => exact .inl (raised_after_own h rfl)

/-- Settles O18: what is raised has grown, for the accounts keep their bounds; what zeroes them stands at the front of the queue. -/
theorem totalsOnlyGrow : Obligations.TotalsOnlyGrow := by
  intro s t hs h
  unfold step at h
  split at h
  · cases h
    exact .inl ((Raised.refl s).grows hs)
  · next c rest hpending =>
    have hfront : s.pending.head? = some c := by rw [hpending, List.head?_cons]
    refine (exec_raised_or_zeroed h).imp (fun hraised => hraised.grows hs) fun ⟨hmay, hzero⟩ => ⟨?_, hzero⟩
    rcases hmay with ⟨dt, f, rfl⟩ | ⟨⟨dt, rfl⟩, hcold⟩ | hfound
    · exact .inl ⟨dt, f, hfront⟩
    · exact .inr (.inl ⟨⟨dt, hfront⟩, hcold⟩)
    · exact .inr (.inr ⟨c, hfront, hfound⟩)

end Sys2Proof.Machine.AccountsAndPeriods

/-! ## Waiting commands and link ports

The queue of waiting commands and the link ports stand outside the blocks: they are written by a frame that comes or goes, by the end
of an event, and by a hold or a start, and by nothing else. -/

namespace Sys2Proof.Machine.ControlAndLinks

open WaterLevels

/-! ### Operations that leave both -/

/-- The commands that wait, and the link ports. -/
def intake (s : State) : List Instr × PerLink LinkPort := (s.pending, s.links)

/-- The skeleton shows both, so what keeps the skeleton keeps them. -/
theorem intake_of_skeleton {s t : State} (h : s.skeleton = t.skeleton) : intake s = intake t :=
  (congrArg intake h : intake s.skeleton = intake t.skeleton)

theorem foldl_intake {α : Type} {g : State → α → State} (h : ∀ s x, intake (g s x) = intake s) (l : List α) (s : State) :
    intake (l.foldl g s) = intake s := by
  induction l generalizing s with
  | nil => rfl
  | cons x l ih => rw [List.foldl_cons, ih, h]

section
variable (s : State) (d : Device)

@[simp] theorem produce_intake (p : Produced) : intake (s.produce p) = intake s := rfl
@[simp] theorem report_intake (r : Report) : intake (s.report r) = intake s := rfl
@[simp] theorem freeLine_intake : intake s.freeLine = intake s := rfl
@[simp] theorem dispatch_intake : intake s.dispatch = intake s := by rw [dispatch_eq]; rfl

theorem stampClosed_intake (was : Bool) : intake (s.stampClosed d was) = intake s := by
  unfold State.stampClosed
  dsimp only
  split_ifs <;> rfl

@[simp] theorem updDev_intake (g : DeviceRecord → DeviceRecord) : intake (s.updDev d g) = intake s := stampClosed_intake _ d _

@[simp] theorem setLimit_intake (v : Filtered) : intake (s.setLimit d v) = intake s := stampClosed_intake _ d _

@[simp] theorem startRequest_intake (t : Target) : intake (s.startRequest d t) = intake s :=
  intake_of_skeleton (startRequest_skeleton s d t)

@[simp] theorem stopRequest_intake : intake (s.stopRequest d) = intake s := intake_of_skeleton (stopRequest_skeleton s d)

@[simp] theorem afterAccept_intake (t : Target) : intake (s.afterAccept d t) = intake s :=
  intake_of_skeleton (afterAccept_skeleton s d t)

@[simp] theorem queriedCheck_intake : intake (s.queriedCheck d) = intake s := intake_of_skeleton (queriedCheck_skeleton s d)

@[simp] theorem statusQuery_intake : intake (s.statusQuery d) = intake s := by
  rcases statusQuery_cases s d with ⟨h, -⟩ | ⟨h, -⟩ | ⟨h, -⟩ <;> rw [h] <;> rfl

@[simp] theorem faultDevice_intake (k : FaultKind) : intake (s.faultDevice d k) = intake s := by
  unfold State.faultDevice
  dsimp only
  split_ifs <;> simp

@[simp] theorem queryTail_intake : intake (s.queryTail d) = intake s := by
  unfold State.queryTail
  split_ifs <;> simp

@[simp] theorem takeNextStart_intake : intake (s.takeNextStart d) = intake s := by
  unfold State.takeNextStart
  split
  · rfl
  · dsimp only
    split_ifs <;> simp

@[simp] theorem applyFinding_intake (f : Finding) : intake (s.applyFinding d f) = intake s := by
  unfold State.applyFinding
  dsimp only
  split_ifs
  · rfl
  · cases f <;> simp
  · cases f <;> simp

/-! #### Events of the drives and of the inputs -/

theorem answered_intake (k : Task) (a : DriveAnswer) : intake (s.answered d k a) = intake s := by
  unfold State.answered
  split
  · simp [State.startAccepted]
  · simp [State.startRejected]
  · simp [State.stopAccepted]
  · simp [State.stopFailed]
  · dsimp only
    split_ifs <;> simp [State.statusApplied]
  · rfl

theorem unanswered_intake (k : Task) : intake (s.unanswered d k) = intake s := by
  have hstatus : intake (s.freeLine.statusUnanswered d) = intake s := by
    unfold State.statusUnanswered
    dsimp only
    split_ifs <;> simp
  cases k with
  | start t => simp [State.unanswered, State.startUnanswered]
  | stop => simp [State.unanswered, State.stopFailed]
  | status =>
    unfold State.unanswered
    dsimp only
    split_ifs <;> simp [hstatus]

@[simp] theorem travelExpired_intake : intake (s.travelExpired d) = intake s := by
  unfold State.travelExpired
  dsimp only
  split_ifs <;> simp

@[simp] theorem limitChanged_intake (v : Filtered) : intake (s.limitChanged d v) = intake s := by
  have htrips : intake ((s.setLimit d v).followTrips s) = intake s := setLimit_intake s d v
  unfold State.limitChanged State.uncommandedCheck
  dsimp only
  split_ifs <;> simp [htrips]

/-! #### The scanner, the lamps, the clock and the start-up -/

@[simp] theorem applyScan_intake (a : ConverterAnswer) : intake (s.applyScan a) = intake s :=
  (foldl_intake (fun s x => produce_intake s (.levelQuality x)) _ _).trans rfl

@[simp] theorem lampSample_intake (m : PerHead (PerLamp Bool)) : intake (s.lampSample m) = intake s :=
  (foldl_intake produce_intake _ _).trans rfl

theorem switchTest_intake : intake s.switchTest = intake s := by
  unfold State.switchTest
  split
  · split_ifs <;> rfl
  · rfl

@[simp] theorem readEnds_intake (answers : Bool) : intake (s.readEnds answers) = intake s := by
  unfold State.readEnds
  dsimp only
  split
  · rfl
  · exact (intake_of_skeleton (enterPhase_skeleton _ .B .outOfService)).trans
      ((intake_of_skeleton (enterPhase_skeleton _ .A .outOfService)).trans rfl)

@[simp] theorem placeQueries_intake : intake s.placeQueries = intake s := foldl_intake statusQuery_intake _ s

/-! #### Commands to a chamber that write more than the blocks' reactions -/

variable (c : Chamber)

theorem acknowledge_intake : intake (s.acknowledge c) = intake s := by
  refine (foldl_intake (fun s d => ?_) _ _).trans rfl
  unfold State.queryFaulted
  split_ifs <;> simp

theorem setMode_intake (m : StepMode) : intake (s.setMode c m) = intake s := by
  cases m with
  | auto => exact (intake_of_skeleton (releaseStep_skeleton _ c)).trans rfl
  | step => rfl

theorem clearLockout_intake : intake (s.clearLockout c) = intake s := by
  refine (intake_of_skeleton ((produce_skeleton ..).trans (stopChamber_skeleton _ c))).trans ?_
  exact (intake_of_skeleton (changePhase_skeleton _ c .hold)).trans (foldl_intake statusQuery_intake _ _)

end

end Sys2Proof.Machine.ControlAndLinks

/-! ## Requests: refused, or carried out without touching the ports (R185) -/

namespace Sys2Proof.Machine.ControlAndLinks

open WaterLevels

/-- An answer to a request in the state `s` that is a refusal, which changes nothing (R185), or an OK that leaves the waiting commands
and the link ports. -/
def Proper (s : State) (a : Answer) : Prop := a = s.refuse a.result ∨ (a.result = .ok ∧ intake a.state = intake s)

theorem Proper.intake_eq {s : State} {a : Answer} (h : Proper s a) : intake a.state = intake s := by
  rcases h with h | ⟨-, h⟩
  · rw [h]
    rfl
  · exact h

@[simp] theorem refuse_proper (s : State) (r : Result) : Proper s (s.refuse r) := .inl rfl

theorem accept_proper {s u : State} {d : ReplyData} (h : intake u = intake s) : Proper s (u.accept d) := .inr ⟨rfl, h⟩

theorem acceptQuiet_proper {s u : State} {d : ReplyData} (h : intake u = intake s) : Proper s (u.acceptQuiet d) := .inr ⟨rfl, h⟩

theorem accept_proper_of_skeleton {s u : State} {d : ReplyData} (h : u.skeleton = s.skeleton) : Proper s (u.accept d) :=
  accept_proper (intake_of_skeleton h)

theorem check_proper {s : State} {ok : Bool} {r : Result} {a : Answer} (h : Proper s a) : Proper s (s.check ok r a) := by
  cases ok
  · exact refuse_proper s r
  · exact h

theorem asHolder_proper {s : State} {f : Frame} {c : Option Chamber} {body : Chamber → Answer} (h : ∀ c, Proper s (body c)) :
    Proper s (s.asHolder f c body) := by
  unfold State.asHolder
  split
  · exact refuse_proper s _
  · split
    · exact refuse_proper s _
    · split_ifs
      · exact h _
      · exact refuse_proper s _

section
variable (f : Frame) (c : Option Chamber) (s : State)

/-! #### Authority -/

@[simp] theorem claimBody_proper : Proper s (claimBody f c s) := by
  unfold claimBody
  split
  · exact refuse_proper s _
  · exact refuse_proper s _
  · exact check_proper (accept_proper_of_skeleton (claimBy_skeleton ..))

@[simp] theorem releaseBody_proper : Proper s (releaseBody f c s) := by
  unfold releaseBody
  split
  · exact refuse_proper s _
  · exact refuse_proper s _
  · split
    · exact refuse_proper s _
    · next h => exact check_proper (accept_proper_of_skeleton (releaseBy_skeleton h))

@[simp] theorem presentBody_proper : Proper s (presentBody f s) := check_proper (check_proper (acceptQuiet_proper rfl))

@[simp] theorem seizeBody_proper : Proper s (seizeBody f c s) := by
  refine check_proper ?_
  cases c with
  | none => exact refuse_proper s _
  | some c => exact check_proper (accept_proper_of_skeleton (seizeBy_skeleton s c))

/-! #### Commands to a chamber -/

@[simp] theorem startLockageBody_proper (d : Option Direction) : Proper s (startLockageBody f c d s) := by
  refine asHolder_proper fun c => check_proper (check_proper ?_)
  cases d with
  | none => exact refuse_proper s _
  | some d => exact check_proper (accept_proper_of_skeleton (enterForming_skeleton s c d []))

@[simp] theorem addVesselBody_proper (h : Nat) (m : Option Mark) : Proper s (addVesselBody f c h m s) := by
  refine asHolder_proper fun c => check_proper ?_
  split
  · exact refuse_proper s _
  · refine check_proper (check_proper (check_proper ?_))
    split
    · next ht => exact acceptQuiet_proper (intake_of_skeleton (tryTake_skeleton ht))
    · exact refuse_proper s _

@[simp] theorem closeEntryBody_proper (list : List (Nat × Option Mark)) : Proper s (closeEntryBody f c list s) := by
  refine asHolder_proper fun c => check_proper (check_proper ?_)
  split
  · exact refuse_proper s _
  · exact accept_proper_of_skeleton ((enterPhase_skeleton ..).trans (closeList_skeleton ..))

@[simp] theorem exitDoneBody_proper : Proper s (exitDoneBody f c s) :=
  asHolder_proper fun c => check_proper (check_proper
    (accept_proper_of_skeleton ((enterIdle_skeleton ..).trans (deletePlan_skeleton s c))))

@[simp] theorem holdBody_proper : Proper s (holdBody f c s) :=
  asHolder_proper fun c => check_proper (check_proper (accept_proper_of_skeleton (holdOrder_skeleton s c .commanded)))

@[simp] theorem resumeBody_proper : Proper s (resumeBody f c s) :=
  asHolder_proper fun c => check_proper (check_proper (check_proper (accept_proper_of_skeleton (resume_skeleton s c))))

@[simp] theorem abandonBody_proper : Proper s (abandonBody f c s) :=
  asHolder_proper fun c => check_proper (check_proper (check_proper (accept_proper_of_skeleton
    (show (s.abandon c).skeleton = s.skeleton by simp [State.abandon]))))

@[simp] theorem acknowledgeFaultBody_proper : Proper s (acknowledgeFaultBody f c s) := by
  cases c with
  | none => exact refuse_proper s _
  | some c =>
    unfold acknowledgeFaultBody
    exact asHolder_proper fun c => check_proper (check_proper (check_proper (accept_proper (acknowledge_intake s c))))

@[simp] theorem acknowledgeFaultCrossBody_proper : Proper s (acknowledgeFaultCrossBody f s) :=
  check_proper (check_proper (check_proper (accept_proper (statusQuery_intake _ .xv))))

@[simp] theorem acknowledgeBody_proper (x : Contents) : Proper s (acknowledgeBody f x s) := by
  unfold acknowledgeBody
  split_ifs <;> simp

@[simp] theorem setModeBody_proper (m : Option StepMode) : Proper s (setModeBody f c m s) := by
  refine asHolder_proper fun c => check_proper (check_proper ?_)
  cases m with
  | none => exact refuse_proper s _
  | some m => exact accept_proper (setMode_intake s c m)

@[simp] theorem advanceBody_proper : Proper s (advanceBody f c s) :=
  asHolder_proper fun c => check_proper (check_proper (check_proper (accept_proper_of_skeleton (releaseStep_skeleton s c))))

@[simp] theorem setServiceBody_proper (v : Option Service) : Proper s (setServiceBody f c v s) := by
  refine asHolder_proper fun c => ?_
  unfold State.serviceAnswer
  split
  · exact check_proper (check_proper (accept_proper_of_skeleton (enterPhase_skeleton s c .outOfService)))
  · exact check_proper (check_proper (check_proper (accept_proper_of_skeleton (enterPhase_skeleton s c .idle))))
  · exact check_proper (refuse_proper s _)

@[simp] theorem setAdmissionBody_proper (n : Nat) : Proper s (setAdmissionBody f c n s) :=
  asHolder_proper fun _ => check_proper (check_proper (acceptQuiet_proper rfl))

/-! #### The desk -/

@[simp] theorem clearLockoutBody_proper : Proper s (clearLockoutBody f c s) := by
  refine check_proper ?_
  cases c with
  | none => exact refuse_proper s _
  | some c => exact check_proper (check_proper (accept_proper (clearLockout_intake s c)))

@[simp] theorem lampCheckBody_proper : Proper s (lampCheckBody f s) := check_proper (check_proper (accept_proper rfl))

/-- A store that brings back what was written takes the block (R206). -/
@[simp] theorem loadConfigurationBody_proper (block : List Byte) : Proper s (loadConfigurationBody f block ⟨none, none⟩ s) := by
  refine check_proper (check_proper (check_proper ?_))
  have hread (written : List Byte) : (⟨none, none⟩ : StoreAnswer).read written = written := rfl
  unfold State.writeConfiguration
  dsimp only
  rw [if_pos (hread _)]
  exact acceptQuiet_proper rfl

/-- Whatever the store brings back, the ports stay (R206). -/
theorem loadConfigurationBody_intake (block : List Byte) (x : StoreAnswer) :
    intake (loadConfigurationBody f block x s).state = intake s := by
  unfold loadConfigurationBody State.check State.writeConfiguration
  dsimp only
  split_ifs <;> rfl

/-! #### Vessels -/

theorem withEmergency_proper {s u : State} (v : Vessel) (d : ReplyData) (h : intake u = intake s) :
    Proper s (u.withEmergency v d) := by
  unfold State.withEmergency
  split_ifs
  · exact accept_proper ((intake_of_skeleton (handleEmergency_skeleton u v.handle)).trans h)
  · exact acceptQuiet_proper h

@[simp] theorem registerVesselBody_proper (r : Registration) : Proper s (registerVesselBody f r s) := by
  refine check_proper ?_
  split
  · refine check_proper (check_proper (check_proper (check_proper (check_proper ?_))))
    split
    · exact refuse_proper s _
    · exact withEmergency_proper _ _ rfl
  · exact refuse_proper s _

@[simp] theorem amendVesselBody_proper (h : Nat) (m : Option Mark) (a : Amendment) : Proper s (amendVesselBody f h m a s) := by
  refine check_proper ?_
  split
  · exact refuse_proper s _
  · refine check_proper ?_
    unfold State.amendChecked
    split
    · exact refuse_proper s _
    · exact check_proper (check_proper (check_proper (check_proper (withEmergency_proper _ _ rfl))))

@[simp] theorem withdrawVesselBody_proper (h : Nat) (m : Option Mark) : Proper s (withdrawVesselBody f h m s) := by
  refine check_proper ?_
  split
  · exact refuse_proper s _
  · exact check_proper (check_proper (acceptQuiet_proper (intake_of_skeleton (withdraw_skeleton s _))))

@[simp] theorem readVesselBody_proper (h : Nat) (m : Option Mark) : Proper s (readVesselBody f h m s) := by
  unfold readVesselBody
  split
  · exact refuse_proper s _
  · exact check_proper (acceptQuiet_proper rfl)

@[simp] theorem readQueueBody_proper (e : Option End) (n : Nat) : Proper s (readQueueBody f e n s) := by
  cases e with
  | none => exact refuse_proper s _
  | some e => exact check_proper (acceptQuiet_proper rfl)

/-! #### Clock, tariffs, accounts and status -/

@[simp] theorem setTimeBody_proper (day second weekday : Nat) : Proper s (setTimeBody f day second weekday s) :=
  check_proper (check_proper (acceptQuiet_proper rfl))

@[simp] theorem loadTariffBody_proper (t : Tariff) (i : Option Instant) : Proper s (loadTariffBody f t i s) :=
  check_proper (check_proper (check_proper (acceptQuiet_proper (by cases i <;> rfl))))

@[simp] theorem readTariffBody_proper (x : Option Slot) : Proper s (readTariffBody f x s) := by
  cases x with
  | none => exact refuse_proper s _
  | some x =>
    refine check_proper ?_
    split
    · exact refuse_proper s _
    · exact acceptQuiet_proper rfl

@[simp] theorem blockAccountBody_proper (n : Nat) : Proper s (blockAccountBody f n s) :=
  check_proper (check_proper (acceptQuiet_proper rfl))

@[simp] theorem unblockAccountBody_proper (n : Nat) : Proper s (unblockAccountBody f n s) :=
  check_proper (check_proper (acceptQuiet_proper rfl))

@[simp] theorem peekRecordBody_proper : Proper s (peekRecordBody f s) := by
  refine check_proper (check_proper ?_)
  split
  · exact refuse_proper s _
  · exact acceptQuiet_proper rfl

@[simp] theorem takeRecordBody_proper (expected : Option Nat) : Proper s (takeRecordBody f expected s) := by
  refine check_proper (check_proper ?_)
  split
  · exact refuse_proper s _
  · exact check_proper (acceptQuiet_proper rfl)

@[simp] theorem closePeriodBody_proper : Proper s (closePeriodBody f s) :=
  check_proper (check_proper (acceptQuiet_proper rfl))

@[simp] theorem readPeriodImageBody_proper (n : Nat) : Proper s (readPeriodImageBody f n s) := by
  refine check_proper (check_proper ?_)
  split
  · exact refuse_proper s _
  · exact acceptQuiet_proper rfl

@[simp] theorem readAccountBody_proper (n : Nat) : Proper s (readAccountBody f n s) := check_proper (acceptQuiet_proper rfl)

@[simp] theorem readStatusBody_proper (which : Nat) : Proper s (readStatusBody f which s) := by
  unfold readStatusBody
  split
  · exact refuse_proper s _
  · exact check_proper (acceptQuiet_proper rfl)

end

/-- The request of every kind code leaves the waiting commands and the ports. -/
theorem requestBody_intake (code : Byte) (f : Frame) (contents : List Byte) (x : Contents) (s : State) :
    intake (requestBody code f contents x s).state = intake s := by
  unfold requestBody
  split
  case h_19 => exact loadConfigurationBody_intake ..
  all_goals exact Proper.intake_eq (by simp)

end Sys2Proof.Machine.ControlAndLinks

/-! ## The end of an event: the queues of notices (R197) -/

namespace Sys2Proof.Machine.ControlAndLinks

/-! ### One queue -/

/-- No two notices of one kind and subject, said of one queue. -/
def Distinct (q : List Notice) : Prop := q.Pairwise fun m n => m.samePair n = false

/-- A notice that joins takes the place of one of its kind and subject, and stands last (R197). -/
theorem joinQueue_distinct {q : List Notice} (h : Distinct q) (n : Notice) : Distinct (joinQueue q n) := by
  refine List.pairwise_append.mpr ⟨h.filter _, List.pairwise_singleton .., fun m hm x hx => ?_⟩
  obtain rfl := List.mem_singleton.mp hx
  simpa using (List.mem_filter.mp hm).2

theorem join_distinct {p : LinkPort} (h : Distinct p.queue) (ns : List Notice) : Distinct (p.join ns).queue :=
  List.foldlRecOn ns joinQueue h fun _ hq n _ => joinQueue_distinct hq n

/-- The transmitter takes nothing from a queue but its head (R184). -/
theorem transmit_queue_sublist (p : LinkPort) : p.transmit.queue.Sublist p.queue := by
  unfold LinkPort.transmit
  split
  · exact .refl _
  · split
    · exact .refl _
    · split
      · exact .refl _
      · split
        · exact .refl _
        · next n rest hqueue =>
          rw [hqueue]
          exact List.sublist_cons_self n rest

theorem served_distinct {p q : LinkPort} (h : Served p q) (hp : Distinct p.queue) : Distinct q.queue := by
  obtain ⟨ns, rfl⟩ := h
  exact (join_distinct hp ns).sublist (transmit_queue_sublist _)

/-! ### What a whole event does with the waiting commands and the queues -/

/-- The commands that wait, and the notices that wait at each link. -/
def queues (s : State) : List Instr × (Link → List Notice) := (s.pending, fun l => (s.port l).queue)

theorem queues_of_intake {s t : State} (h : intake s = intake t) : queues s = queues t :=
  congrArg (fun x : List Instr × PerLink LinkPort => (x.1, fun l => (x.2.get l).queue)) h

/-- What happens at a port without touching its queue. -/
theorem modPort_queues (s : State) (l : Link) {g : LinkPort → LinkPort} (hg : ∀ p, (g p).queue = p.queue) :
    queues (s.modPort l g) = queues s := by
  refine Prod.ext rfl (funext fun k => ?_)
  by_cases hk : k = l
  · subst hk
    simp [queues, State.port, State.modPort, hg]
  · simp [queues, State.port, State.modPort, hk]

/-- `t` is a state at the end of an event that began in `s`: the waiting commands are left alone, the event is over, and no queue has
come to hold two notices of one kind and subject. -/
structure Ends (s t : State) : Prop where
  pending : t.pending = s.pending
  event : t.event = .blank
  distinct : NoticesDistinct s → NoticesDistinct t

/-- What a queue holds at the end hangs on nothing but the queues before. -/
theorem Ends.of_queues {s u t : State} (h : Ends u t) (hq : queues u = queues s) : Ends s t := by
  refine ⟨h.pending.trans (congrArg Prod.fst hq), h.event, fun hs => h.distinct fun l => ?_⟩
  have hl : (u.port l).queue = (s.port l).queue := congrFun (congrArg Prod.snd hq) l
  rw [hl]
  exact hs l

theorem Ends.trans {s t u : State} (h : Ends s t) (k : Ends t u) : Ends s u :=
  ⟨k.pending.trans h.pending, k.event, fun hs => k.distinct (h.distinct hs)⟩

/-- A state whose queues have not changed, with no event in progress. -/
theorem ends_of_queues {s t : State} (hq : queues t = queues s) (he : t.event = .blank) : Ends s t :=
  Ends.of_queues (u := t) ⟨rfl, he, id⟩ hq

theorem finishQuiet_ends {s u : State} (h : queues u = queues s) : Ends s u.finishQuiet := by
  refine Ends.of_queues ⟨finishQuiet_pending u, ?_, fun hu l => served_distinct (finishQuiet_port u l) (hu l)⟩ h
  rw [finishQuiet_eq]

theorem finish_ends {s u : State} (h : queues u = queues s) : Ends s u.finish := by
  refine Ends.of_queues ⟨finish_pending u, ?_, fun hu l => served_distinct (finish_port u l) (hu l)⟩ h
  rw [finish_eq, finishQuiet_eq]

theorem rest_ends {s u : State} (h : queues u = queues s) : Ends s u.rest := ends_of_queues (t := u.rest) h rfl

theorem when_ends {s u : State} (due : Bool) (h : Ends s u) : Ends s (s.when due u) := by
  cases due
  · exact rest_ends rfl
  · exact h

/-! ### Frames at a link port -/

theorem replied_queues (s : State) (f : Frame) (code : Byte) (r : Result) (d : ReplyData) :
    queues (s.replied f code r d) = queues s :=
  modPort_queues _ _ fun _ => rfl

theorem hearAt_queues (s : State) (l : Link) (moment : Nat) : queues (s.hearAt l moment) = queues s :=
  modPort_queues _ _ fun _ => rfl

theorem answerBusy_ends {s u : State} (l : Link) (code tag : Byte) (h : queues u = queues s) :
    Ends s (u.answerBusy l code tag) := by
  refine (finishQuiet_ends ?_).of_queues h
  exact modPort_queues _ _ fun _ => rfl

/-- The reply only takes its slot (R184). -/
theorem place_ends {s : State} {a : Answer} (f : Frame) (code : Byte) (h : intake a.state = intake s) :
    Ends s (a.place f code) := by
  have hreplied : queues (a.state.replied f code a.result a.data) = queues s :=
    (replied_queues ..).trans (queues_of_intake h)
  rw [place_eq]
  split_ifs
  · exact finish_ends hreplied
  · exact finishQuiet_ends hreplied

theorem meetSlots_ends {s : State} (f : Frame) (code : Byte) {body : State → Answer} (h : intake (body s).state = intake s) :
    Ends s (s.meetSlots f code body) := by
  unfold State.meetSlots
  split
  · exact place_ends f code h
  · exact answerBusy_ends _ _ _ rfl
  · exact finishQuiet_ends rfl

theorem takeHeard_ends (l : Link) (bytes : List ArrivedByte) (s : State) (h : Heard) : Ends s (s.takeHeard l bytes h) :=
  (meetSlots_ends _ _ (requestBody_intake ..)).of_queues (hearAt_queues ..)

/-- The receiver that searches on among discarded bytes only takes frames (R183). -/
theorem discardFrame_ends (s : State) (l : Link) (gap : Bool) (bytes : List ArrivedByte) : Ends s (s.discardFrame l gap bytes) := by
  unfold State.discardFrame
  dsimp only
  split_ifs
  · exact rest_ends rfl
  · have hfound (found : List Heard) : Ends s (found.foldl (State.takeHeard l bytes) s.finishQuiet) :=
      List.foldlRecOn found _ (finishQuiet_ends rfl) fun u hu h _ => hu.trans (takeHeard_ends l bytes u h)
    exact (hfound _).trans (ends_of_queues (modPort_queues _ _ fun _ => rfl) (hfound _).event)

/-- A hold abandons what is in progress at the ports, but not the notices that wait (R199, R201). -/
theorem holdPart_ends (s : State) (h : Hold) : Ends s (s.holdPart h) := by
  refine ends_of_queues (Prod.ext rfl (funext fun l => ?_)) rfl
  simp [queues, State.port, State.holdPart, LinkPort.abandon]

theorem sent_queue (p : LinkPort) : p.sent.queue = p.queue := by
  unfold LinkPort.sent
  split <;> rfl

/-- A frame that is out empties its slot, or holds the part (R184, R206). -/
theorem frameOut_ends (s : State) (l : Link) : Ends s (s.frameOut l) := by
  unfold State.frameOut
  split_ifs
  · exact holdPart_ends s _
  · exact finishQuiet_ends (modPort_queues s l sent_queue)

/-! ### The other events -/

theorem finish_ends_of_intake {s u : State} (h : intake u = intake s) : Ends s u.finish := finish_ends (queues_of_intake h)

theorem finishQuiet_ends_of_intake {s u : State} (h : intake u = intake s) : Ends s u.finishQuiet :=
  finishQuiet_ends (queues_of_intake h)

theorem driveAnswer_ends (s : State) (address : Nat) (want : Task → Bool) (a : DriveAnswer) :
    Ends s (s.driveAnswer address want a) := by
  unfold State.driveAnswer
  split
  · exact when_ends _ (finish_ends_of_intake (answered_intake s _ _ a))
  · exact rest_ends rfl

theorem sampleEvent_ends (s : State) (m : PerHead (PerLamp Bool)) : Ends s (s.sampleEvent m) := by
  unfold State.sampleEvent
  split_ifs
  · exact finish_ends_of_intake (lampSample_intake s m)
  · exact finishQuiet_ends_of_intake (lampSample_intake s m)

theorem tick_ends (s : State) : Ends s s.tick := by
  unfold State.tick
  split_ifs
  · exact rest_ends rfl
  · exact finishQuiet_ends_of_intake (switchTest_intake s.tickClock)
  · exact rest_ends rfl

/-- After a start the queues are empty (R199). -/
theorem startPart_ends (s : State) : Ends s s.startPart := by
  unfold State.startPart
  refine ⟨?_, rfl, fun _ l => ?_⟩
  · dsimp only
    split_ifs <;> rfl
  · cases l <;> exact List.Pairwise.nil

end Sys2Proof.Machine.ControlAndLinks

/-! ## Every command ends its event -/

namespace Sys2Proof.Machine.ControlAndLinks

open WaterLevels

theorem ends_after_request {s t : State} {dt : Nat} {f : Frame} {code : Byte} {body : State → Answer}
    (h : s.request dt f code body = .next t) (hb : ∀ u, intake (body u).state = intake u) : Ends s t := by
  injection h with h
  subst h
  split_ifs
  · exact rest_ends rfl
  · exact (meetSlots_ends f code (hb _)).of_queues (hearAt_queues (s.beginEvent dt) ..)

theorem ends_after_event {s t : State} {dt : Nat} {body : State → State} (h : s.event? dt body = .next t)
    (hb : ∀ u, Ends u (body u)) : Ends s t := by
  injection h with h
  subst h
  split_ifs
  · exact rest_ends rfl
  · exact (hb _).of_queues (u := s.beginEvent dt) rfl

/-- An event that other blocks react to, and whose own effect leaves the ports. -/
theorem ends_after_finish {s t : State} {dt : Nat} {due : State → Bool} {op : State → State}
    (h : (s.event? dt fun u => u.when (due u) (op u).finish) = .next t) (hop : ∀ u, intake (op u) = intake u) : Ends s t :=
  ends_after_event h fun u => when_ends _ (finish_ends_of_intake (hop u))

/-- An event that no other block reacts to, and that leaves the queues. -/
theorem ends_after_finishQuiet {s t : State} {dt : Nat} {due : State → Bool} {op : State → State}
    (h : (s.event? dt fun u => u.when (due u) (op u).finishQuiet) = .next t) (hop : ∀ u, queues (op u) = queues u) : Ends s t :=
  ends_after_event h fun u => when_ends _ (finishQuiet_ends (hop u))

/-- A command of the part itself, carried out while it is held as well. -/
theorem ends_after_own {s t u : State} {dt : Nat} {due : Bool} (h : (.next ((s.beginEvent dt).when due u) : Outcome) = .next t)
    (hu : Ends (s.beginEvent dt) u) : Ends s t := by
  injection h with h
  subst h
  exact (when_ends due hu).of_queues (u := s.beginEvent dt) rfl

/-- Every command ends its event: a request by its answer, an event by the way it ends. -/
theorem exec_ends {c : Instr} {s t : State} (h : exec c s = .next t) : Ends s t := by
  unfold exec at h
  cases c with
  | claim | release | present | seize | startLockage | addVessel | closeEntry | exitDone | hold | resume | abandon
  | acknowledgeFault | acknowledgeFaultCross | setMode | advance | setService | setAdmission | clearLockout | lampCheck
  | registerVessel | amendVessel | withdrawVessel | setTime | loadTariff | blockAccount | unblockAccount | peekRecord
  | takeRecord | closePeriod | readPeriodImage | readStatus | readVessel | readQueue | readTariff | readAccount =>
    exact ends_after_request h fun u => Proper.intake_eq (by simp)
  | loadConfiguration => exact ends_after_request h fun u => loadConfigurationBody_intake ..
  | unknownCommand dt l code tag =>
    change (if isRequestCode code then s.event? dt State.rest
      else s.request dt ⟨l, tag, true⟩ code fun s => s.refuse .unknownCommand) = .next t at h
    split_ifs at h
    · exact ends_after_event h fun _ => rest_ends rfl
    · exact ends_after_request h fun _ => rfl
  | frameInvalid | frameGapTimeout => exact ends_after_event h fun u => discardFrame_ends u ..
  | holderSilence dt c => exact ends_after_finish h fun u => intake_of_skeleton (holderSilent_skeleton u c)
  | claimantSilence dt c => exact ends_after_finish h fun u => intake_of_skeleton (dropPending_skeleton u c _)
  | levelLost dt c => exact ends_after_finish h fun u => intake_of_skeleton (levelLostCheck_skeleton u c)
  | crossWaitExpiry dt c => exact ends_after_finish h fun u => intake_of_skeleton (waitExpired_skeleton u c)
  | crossExchangeExpiry => exact ends_after_finish h fun u => intake_of_skeleton (endExchange_skeleton u)
  | scanCompletion dt a =>
    exact ends_after_finish h fun u => (intake_of_skeleton (watchHead_skeleton _)).trans (applyScan_intake u a)
  | crossConflict => exact ends_after_finish h fun u => (faultDevice_intake _ .xv _).trans rfl
  | travelDeadlineExpiry | limitInputChange | configReadEnd | censusQueries => exact ends_after_finish h fun u => by simp
  | sillBeamClear | limitConflict | levelTimeout => exact ends_after_finish h fun _ => rfl
  | busyLink => exact ends_after_event h fun u => when_ends _ (answerBusy_ends _ _ _ (hearAt_queues u ..))
  | frameDiscardedSlotsFull => exact ends_after_finishQuiet h fun u => hearAt_queues u ..
  | limitConflictRearm | crossConflictRearm | scanStart | doneInputChange => exact ends_after_finishQuiet h fun _ => rfl
  | deadTimeExpiry => exact ends_after_finishQuiet h fun u => queues_of_intake (dispatch_intake u)
  | startAnswer | stopAnswer | statusReply => exact ends_after_event h fun u => driveAnswer_ends u ..
  | driveAnswerTimeout =>
    refine ends_after_event h fun u => ?_
    split
    · exact finish_ends_of_intake (unanswered_intake ..)
    · exact rest_ends rfl
  | driveFrameDiscarded =>
    refine ends_after_event h fun u => ?_
    split
    · exact driveAnswer_ends u ..
    · exact rest_ends rfl
  | doneEvent dt d =>
    refine ends_after_event h fun u => when_ends _ ?_
    split_ifs
    · exact finish_ends_of_intake (updDev_intake _ d _)
    · exact finishQuiet_ends rfl
  | sillBeamBreak dt c e =>
    refine ends_after_event h fun u => when_ends _ ?_
    split_ifs
    · exact finish_ends_of_intake ((intake_of_skeleton (sillBreak_skeleton (u.setBeam c e .inactive) c e)).trans rfl)
    · exact finish_ends rfl
  | lampLatch | lampStray | lampCurrentSample => exact ends_after_event h fun u => when_ends _ (sampleEvent_ends u _)
  | frameSent => exact ends_after_event h fun u => when_ends _ (frameOut_ends u _)
  | clockTick dt =>
    injection h with h
    exact h ▸ (tick_ends _).of_queues (u := s.beginEvent dt) rfl
  | resetLineHeld | mainPowerHeld => exact ends_after_own h (holdPart_ends _ _)
  | partReleased => exact ends_after_own h (startPart_ends _)
  | batteryLow => exact ends_after_own h (ends_of_queues rfl rfl)

/-- Every command answers a next state. -/
theorem exec_next (c : Instr) (s : State) : ∃ t, exec c s = .next t := by
  cases c with
  | unknownCommand dt l code tag =>
    change ∃ t, (if isRequestCode code then s.event? dt State.rest
      else s.request dt ⟨l, tag, true⟩ code fun s => s.refuse .unknownCommand) = .next t
    split_ifs <;> exact ⟨_, rfl⟩
  | _ => exact ⟨_, rfl⟩

/-- Settles O1: by the two cases of a step. -/
theorem stepTakesFrontCommand : Obligations.StepTakesFrontCommand :=
  ⟨fun _ _ _ => rfl, fun s h => by rw [step, h]⟩

/-- Settles O2: the next state ends the command's event. -/
theorem everyCommandAnswers : Obligations.EveryCommandAnswers := by
  intro c s
  obtain ⟨t, h⟩ := exec_next c s
  exact ⟨t, h, (exec_ends h).pending, (exec_ends h).event⟩

/-- Settles O11: the step runs the command at the front of the queue, at the end of whose event the queues are as R197 has them. -/
theorem noticesDistinctKept : Obligations.NoticesDistinctKept := by
  intro s t hs h
  unfold step at h
  split at h
  · cases h
    exact hs
  · next c rest _ => exact (exec_ends (s := { s with pending := rest }) h).distinct hs

end Sys2Proof.Machine.ControlAndLinks

/-! ## Refusals (R185, R186) -/

namespace Sys2Proof.Machine.ControlAndLinks

/-- A request's command takes its frame at the port, and answers it properly. -/
theorem exec_of_requestOf {c : Instr} {dt : Nat} {f : Frame} {code : Byte} (h : requestOf c = some (dt, f, code)) (s : State) :
    ∃ body, exec c s = s.request dt f code body ∧ ∀ u, Proper u (body u) := by
  cases c with
  | claim | release | present | seize | startLockage | addVessel | closeEntry | exitDone | hold | resume | abandon
  | acknowledgeFault | acknowledgeFaultCross | setMode | advance | setService | setAdmission | clearLockout | lampCheck
  | registerVessel | amendVessel | withdrawVessel | setTime | loadTariff | blockAccount | unblockAccount | peekRecord
  | takeRecord | closePeriod | readPeriodImage | readStatus | readVessel | readQueue | readTariff | readAccount =>
    cases h
    exact ⟨_, rfl, fun u => by simp⟩
  | loadConfiguration dt' f' block store =>
    obtain ⟨damage, readBack⟩ := store
    cases damage <;> cases readBack <;> cases h
    exact ⟨_, rfl, fun u => loadConfigurationBody_proper f u block⟩
  | _ => cases h

/-- The reply of a request that has been taken stands in its slot at the end of the event (R184). -/
theorem place_reply (a : Answer) (f : Frame) (code : Byte) :
    ((a.place f code).port f.link).reply = some ⟨replyKind code, f.tag, a.result, a.data⟩ := by
  have hreplied : ((a.state.replied f code a.result a.data).port f.link).reply =
      some ⟨replyKind code, f.tag, a.result, a.data⟩ := by
    simp [State.replied, State.modPort, State.port]
  rw [place_eq]
  split_ifs
  · rw [(finish_port _ f.link).keeps.1, hreplied]
  · rw [(finishQuiet_port _ f.link).keeps.1, hreplied]

/-- A chamber command from an operator's link that is not the chamber's holder's (R186). -/
theorem asHolder_notHolder {s : State} {f : Frame} {o : Operator} {c : Chamber} (ho : f.link.operator? = some o)
    (hc : s.holder c ≠ some o) (body : Chamber → Answer) : s.asHolder f (some c) body = s.refuse .notHolder := by
  simp [State.asHolder, ho, hc]

/-- ACKNOWLEDGE FAULT of a chamber is a chamber command (R95, R186). -/
theorem acknowledgeFaultBody_asHolder (f : Frame) (c : Chamber) (s : State) :
    ∃ g, acknowledgeFaultBody f (some c) s = s.asHolder f (some c) g := by
  unfold acknowledgeFaultBody
  exact ⟨_, rfl⟩

/-- Settles O42: a proper answer that is not OK is a refusal; a chamber command asks first for the holder. -/
theorem refusalsChangeNothing : Obligations.RefusalsChangeNothing := by
  refine ⟨fun c dt f code s t hc hr h => ?_, fun dt f o c s hr ho hholder x hx => ?_⟩
  · obtain ⟨body, hexec, hproper⟩ := exec_of_requestOf hc s
    rw [hexec] at h ⊢
    rw [request_taken hr] at h
    injection h with h
    subst h
    refine ⟨_, place_reply .., fun hresult => ?_⟩
    have hrefused := (hproper (s.taken dt f)).resolve_right fun hok => hresult hok.1
    exact refused_onlyAnswered hr hrefused
  · have hrefused (code : Byte) (body : State → Answer) (hbody : ∀ u, ∃ g, body u = u.asHolder f (some c) g) :
        OnlyAnswered s dt f code .notHolder .none (s.request dt f code body) := by
      obtain ⟨g, hg⟩ := hbody (s.taken dt f)
      exact refused_onlyAnswered hr (hg.trans (asHolder_notHolder (s := s.taken dt f) ho hholder g))
    rcases hx with hx | ⟨d, rfl⟩ | ⟨n, m, rfl⟩ | ⟨l, rfl⟩ | ⟨m, rfl⟩ | ⟨v, rfl⟩ | ⟨n, rfl⟩
    · simp only [List.mem_cons, List.not_mem_nil, or_false] at hx
      rcases hx with rfl | rfl | rfl | rfl | rfl | rfl
      case inr.inr.inr.inr.inl => exact ⟨_, rfl, hrefused _ _ (acknowledgeFaultBody_asHolder f c)⟩
      all_goals exact ⟨_, rfl, hrefused _ _ fun _ => ⟨_, rfl⟩⟩
    all_goals exact ⟨_, rfl, hrefused _ _ fun _ => ⟨_, rfl⟩⟩

end Sys2Proof.Machine.ControlAndLinks

/-! ## Numbers and frames in their bytes (R182, R183) -/

namespace Sys2Proof.Machine.ControlAndLinks

/-! ### Numbers -/

theorem byte_toNat (n : Nat) : (byte n).toNat = n % 256 := by simp [byte]

/-- Reading the bytes of a number behind those of another, most significant first. -/
theorem beBytes_foldl_from (width n start : Nat) :
    (beBytes width n).foldl (fun x b => 256 * x + b.toNat) start = start * 256 ^ width + n % 256 ^ width := by
  induction width generalizing start with
  | zero => simp [beBytes, Nat.mod_one]
  | succ width ih =>
    rw [beBytes, List.foldl_cons, ih, byte_toNat, Nat.mod_pow_succ, pow_succ]
    ring

/-- A number that its width holds reads back from its bytes (R182). -/
theorem beBytes_foldl {width n : Nat} (h : n < 256 ^ width) :
    (beBytes width n).foldl (fun x b => 256 * x + b.toNat) 0 = n := by
  rw [beBytes_foldl_from, Nat.zero_mul, Nat.zero_add, Nat.mod_eq_of_lt h]

/-- A lock time stands in five bytes (R182). -/
theorem lockTimeBytes_eq (t : LockTime) : lockTimeBytes t = beBytes 2 t.day ++ beBytes 3 (t.second * 8 + t.weekday) := by
  simp [lockTimeBytes, be16, be24, beBytes]

/-- The reply's kind code is the request's plus 128 (R182). -/
theorem replyKind_toNat {code : Byte} (h : code.toNat < 128) : (replyKind code).toNat = code.toNat + 128 := by
  rw [replyKind, if_pos h, BitVec.toNat_add]
  exact Nat.mod_eq_of_lt (Nat.add_lt_add_right h 128)

/-! ### The frame envelope -/

theorem frameBytes_eq (kind tag : Byte) (contents : List Byte) :
    frameBytes kind tag contents =
      startByte :: byte (contents.length + 2) :: kind :: tag ::
        (contents ++ be16 (check16 (byte (contents.length + 2) :: kind :: tag :: contents)).toNat) := by
  simp [frameBytes]

/-- The length byte of a body of at most 250 bytes (R182). -/
theorem length_byte_toNat {contents : List Byte} (h : contents.length ≤ 248) :
    (byte (contents.length + 2)).toNat = contents.length + 2 := by
  rw [byte_toNat]
  omega

/-- A frame reads back as what it carries. -/
theorem readFrame_frameBytes (kind tag : Byte) {contents : List Byte} (h : contents.length ≤ 248) :
    readFrame (frameBytes kind tag contents) = some (kind, tag, contents) := by
  rw [frameBytes_eq]
  simp [readFrame, length_byte_toNat h, be16]
  omega

/-! ### The receiver's search (R183) -/

theorem forall_ne_startByte {bs : List Byte} (h : startByte ∉ bs) : ∀ b ∈ bs, decide (b ≠ startByte) = true := by
  intro b hb
  refine decide_eq_true ?_
  rintro rfl
  exact h hb

theorem lookFor_nothing {bs : List Byte} (h : startByte ∉ bs) : lookFor bs = .nothing := by
  have hdrop : bs.dropWhile (· ≠ startByte) = [] := List.dropWhile_eq_nil_iff.mpr (forall_ne_startByte h)
  rw [lookFor, hdrop]

/-- Where no start value stands the search finds nothing. -/
theorem search_nothing (gap : Bool) (n : Nat) {bs : List Byte} (h : startByte ∉ bs) : search gap n bs = ([], []) := by
  cases n with
  | zero => rfl
  | succ n => rw [search, lookFor_nothing h]

/-- A frame is the start value, a length, and as many bytes as the length and the check take. -/
theorem frameBytes_body (kind tag : Byte) {contents : List Byte} (h : contents.length ≤ 248) :
    ∃ len body, frameBytes kind tag contents = startByte :: len :: body ∧ body.length = len.toNat + 2 :=
  ⟨_, _, frameBytes_eq kind tag contents, by simp [length_byte_toNat h, be16]⟩

/-- Behind bytes that are no start value, the search finds the frame that begins there. -/
theorem lookFor_frame {junk : List Byte} (hjunk : startByte ∉ junk) (kind tag : Byte) {contents : List Byte}
    (h : contents.length ≤ 248) (rest : List Byte) :
    lookFor (junk ++ frameBytes kind tag contents ++ rest) = .frame kind tag contents rest := by
  have hread := readFrame_frameBytes kind tag h
  obtain ⟨len, body, hframe, hlength⟩ := frameBytes_body kind tag h
  rw [hframe] at hread ⊢
  have hdrop : (junk ++ startByte :: len :: body ++ rest).dropWhile (· ≠ startByte) = startByte :: len :: (body ++ rest) := by
    rw [List.append_assoc, List.dropWhile_append_of_pos (forall_ne_startByte hjunk)]
    simp
  have hwhole : ¬ (body ++ rest).length < len.toNat + 2 := by
    rw [List.length_append]
    omega
  rw [lookFor, hdrop]
  simp only [hwhole, if_false, List.take_left' hlength, List.drop_left' hlength, hread]

/-- After a discarded start byte and junk the search finds the frame, and nothing behind it. -/
theorem searchAgain_frame (gap : Bool) {junk after contents : List Byte} (kind tag : Byte) (hjunk : startByte ∉ junk)
    (hafter : startByte ∉ after) (h : contents.length ≤ 248) :
    searchAgain gap (startByte :: (junk ++ frameBytes kind tag contents ++ after)) =
      ([⟨kind, tag, contents, after.length⟩], []) := by
  rw [searchAgain, List.length_cons, List.tail_cons, search, lookFor_frame hjunk kind tag h]
  simp only [search_nothing gap _ hafter]

/-- The moment of the last check byte is that of the byte with which the frame ends. -/
theorem age_of_left (kind tag : Byte) (contents : List Byte) (before after : List ArrivedByte) (last : ArrivedByte) :
    (⟨kind, tag, contents, after.length⟩ : Heard).age (before ++ last :: after) = last.age := by
  simp [Heard.age]

/-! ### The bytes of a discarded attempt (R183) -/

theorem all_zip_tail_iff_isChain {α : Type} {r : α → α → Bool} {l : List α} :
    ((l.zip l.tail).all fun x => r x.1 x.2) = true ↔ l.IsChain fun a b => r a b = true := by
  induction l with
  | nil => simp
  | cons a l ih =>
    cases l with
    | nil => simp
    | cons b l =>
      rw [List.isChain_cons_cons, ← ih]
      simp

theorem arrivedInTime_iff (gap : Bool) (bytes : List ArrivedByte) : arrivedInTime gap bytes = true ↔ InTime gap bytes := by
  have hchain := all_zip_tail_iff_isChain (l := bytes)
    (r := fun a b => decide (b.age ≤ a.age) && decide (a.age ≤ b.age + byteGapLimit))
  rw [arrivedInTime, InTime, Bool.and_eq_true, hchain]
  refine and_congr ?_ ?_
  · simp only [Bool.and_eq_true, decide_eq_true_eq]
    rfl
  · cases bytes.getLast? with
    | none => simp
    | some b =>
      cases gap
      · simp
      · simp
        rfl

end Sys2Proof.Machine.ControlAndLinks

/-! ## The link ports (R183, R184, R197) -/

namespace Sys2Proof.Machine.ControlAndLinks

/-! ### The transmitter and the queue -/

section
variable {p : LinkPort}

theorem transmit_sending (h : p.sending ≠ none) : p.transmit = p := by
  obtain ⟨x, hx⟩ := Option.ne_none_iff_exists'.mp h
  simp [LinkPort.transmit, hx]

theorem transmit_reply (h : p.sending = none) (hr : p.reply ≠ none) : p.transmit = { p with sending := some .reply } := by
  obtain ⟨r, hr⟩ := Option.ne_none_iff_exists'.mp hr
  simp [LinkPort.transmit, h, hr]

theorem transmit_busy (h : p.sending = none) (hr : p.reply = none) (hb : p.busy ≠ none) :
    p.transmit = { p with sending := some .busy } := by
  obtain ⟨b, hb⟩ := Option.ne_none_iff_exists'.mp hb
  simp [LinkPort.transmit, h, hr, hb]

theorem transmit_idle (h : p.sending = none) (hr : p.reply = none) (hb : p.busy = none) (hq : p.queue = []) :
    p.transmit = p := by
  simp [LinkPort.transmit, h, hr, hb, hq]

theorem transmit_notice (h : p.sending = none) (hr : p.reply = none) (hb : p.busy = none) {n : Notice} {rest : List Notice}
    (hq : p.queue = n :: rest) :
    p.transmit = { p with sending := some (.notice p.sequence n), queue := rest, sequence := p.sequence + 1 } := by
  simp [LinkPort.transmit, h, hr, hb, hq]

/-- The sequence number counts its byte through (R197). -/
theorem nextSequence_toNat (b : Byte) : (b + 1).toNat = if b.toNat = 255 then 0 else b.toNat + 1 := by
  have hb : b.toNat < 256 := b.isLt
  rw [BitVec.toNat_add, show (1 : Byte).toNat = 1 from rfl]
  split_ifs <;> omega

/-- Notices join one after the other, each in the place of one of its kind and subject (R197). -/
theorem join_cons (p : LinkPort) (n : Notice) (ns : List Notice) :
    p.join (n :: ns) =
      ({ p with queue := (p.queue.filter fun m => ¬(m.kind = n.kind ∧ m.subject = n.subject)) ++ [n] } : LinkPort).join ns := by
  have hjoin : joinQueue p.queue n = (p.queue.filter fun m => ¬(m.kind = n.kind ∧ m.subject = n.subject)) ++ [n] := by
    simp [joinQueue, Notice.samePair]
  rw [LinkPort.join, List.foldl_cons, hjoin]
  rfl

/-- The frame of a reply reads back as the reply (R182). -/
theorem sendingBytes_reply {r : ReplyFrame} (h : p.sending = some .reply) (hr : p.reply = some r)
    (hlength : (replyDataBytes r.data).length ≤ 247) :
    ∃ bytes, p.sendingBytes = some bytes ∧
      readFrame bytes = some (r.kind, r.tag, byte r.result.code :: replyDataBytes r.data) := by
  refine ⟨r.bytes, by simp [LinkPort.sendingBytes, h, hr], readFrame_frameBytes _ _ ?_⟩
  rw [List.length_cons]
  omega

/-- So does the frame of a notice (R182, R197). -/
theorem sendingBytes_notice {tag : Byte} {n : Notice} (h : p.sending = some (.notice tag n))
    (hlength : (noticeDataBytes n.data).length ≤ 247) :
    ∃ bytes, p.sendingBytes = some bytes ∧
      readFrame bytes = some (byte n.kind.code, tag, byte n.subject.code :: noticeDataBytes n.data) := by
  refine ⟨n.bytes tag, by simp [LinkPort.sendingBytes, h], readFrame_frameBytes _ _ ?_⟩
  rw [List.length_cons]
  omega

/-- A frame that is out empties the slot that it came from (R184). -/
theorem sent_eq {x : Sending} (h : p.sending = some x) :
    p.sent =
      { p with
        sending := none
        reply := if x = .reply then none else p.reply
        busy := if x = .busy then none else p.busy } := by
  cases x <;> simp [LinkPort.sent, h]

end

/-! ### Events at one port -/

theorem modPort_port (s : State) (l k : Link) (g : LinkPort → LinkPort) :
    (s.modPort l g).port k = if k = l then g (s.port k) else s.port k := by
  by_cases hk : k = l
  · subst hk
    simp [State.port, State.modPort]
  · simp [State.port, State.modPort, hk]

theorem modPort_modPort (s : State) (l : Link) (g g' : LinkPort → LinkPort) :
    (s.modPort l g).modPort l g' = s.modPort l fun p => g' (g p) := by
  cases l <;> rfl

/-- An event that only does something at one port: after it the free transmitters take what waits (R184). -/
theorem portEvent {s : State} {dt : Nat} {l : Link} (g : LinkPort → LinkPort) {o : Outcome}
    (ho : o = .next ((s.beginEvent dt).modPort l g).finishQuiet) :
    ∃ t, o = .next t ∧ t = { s with now := s.now + dt, links := t.links, event := .blank } ∧
      ∀ k, t.port k = (if k = l then g (s.port k) else s.port k).transmit := by
  refine ⟨_, ho, ?_, fun k => ?_⟩
  · rw [finishQuiet_eq]
    rfl
  · rw [finishQuiet_port_silent (s := (s.beginEvent dt).modPort l g) rfl rfl, modPort_port]
    rfl

section
variable (dt : Nat) (l : Link) (code tag : Byte) {s : State} (hheld : s.isHeld = false)
include hheld

theorem unknownCommand_answered (hr : (s.port l).reply = none) (hcode : isRequestCode code = false) :
    OnlyAnswered s dt ⟨l, tag, true⟩ code .unknownCommand .none (exec (.unknownCommand dt l code tag) s) := by
  have hexec : exec (.unknownCommand dt l code tag) s =
      s.request dt ⟨l, tag, true⟩ code fun s => s.refuse .unknownCommand := if_neg (hcode ▸ Bool.false_ne_true)
  rw [hexec]
  exact refused_onlyAnswered ⟨hheld, hr⟩ rfl

theorem busyLink_event (hr : (s.port l).reply ≠ none) (hb : (s.port l).busy = none) :
    exec (.busyLink dt l code tag) s =
      .next ((s.beginEvent dt).modPort l fun p =>
        { p with
          lastFrame := some (s.now + dt), receive := [], busy := some ⟨replyKind code, tag, .busyLink, .none⟩ }).finishQuiet := by
  have hdue : (((s.beginEvent dt).port l).reply.isSome && ((s.beginEvent dt).port l).busy.isNone) = true := by
    have hport : (s.beginEvent dt).port l = s.port l := rfl
    rw [hport, hb, Option.isSome_iff_ne_none.mpr hr]
    rfl
  change execBusyLink dt l code tag s = _
  rw [execBusyLink, event_taken hheld, hdue, State.when, if_pos rfl, State.answerBusy, State.hear, State.hearAt, modPort_modPort]
  rfl

theorem slotsFull_event (hr : (s.port l).reply ≠ none) (hb : (s.port l).busy ≠ none) :
    exec (.frameDiscardedSlotsFull dt l code tag) s =
      .next ((s.beginEvent dt).modPort l fun p => { p with lastFrame := some (s.now + dt), receive := [] }).finishQuiet := by
  have hdue : (((s.beginEvent dt).port l).reply.isSome && ((s.beginEvent dt).port l).busy.isSome) = true := by
    have hport : (s.beginEvent dt).port l = s.port l := rfl
    rw [hport, Option.isSome_iff_ne_none.mpr hr, Option.isSome_iff_ne_none.mpr hb]
    rfl
  change execFrameDiscardedSlotsFull dt l code tag s = _
  rw [execFrameDiscardedSlotsFull, event_taken hheld, hdue]
  rfl

theorem frameSent_event {x : Sending} (hx : (s.port l).sending = some x)
    (hgoesOn : ¬(s.start.reconfigurePending = true ∧ l = .desk ∧ x = .reply)) :
    exec (.frameSent dt l) s = .next ((s.beginEvent dt).modPort l LinkPort.sent).finishQuiet := by
  have hport : (s.beginEvent dt).port l = s.port l := rfl
  have hno : (s.beginEvent dt).reconfigureSent l = false := by
    rw [State.reconfigureSent, hport, hx]
    simpa using hgoesOn
  change execFrameSent dt l s = _
  rw [execFrameSent, event_taken hheld, hport, hx, State.frameOut, hno]
  rfl

/-! ### A discarded attempt (R183) -/

theorem discard_event (gap : Bool) (bytes : List ArrivedByte) :
    exec (if gap then .frameGapTimeout dt l bytes else .frameInvalid dt l bytes) s =
      .next ((s.beginEvent dt).discardFrame l gap bytes) := by
  cases gap
  · change execFrameInvalid dt l bytes s = _
    rw [execFrameInvalid, event_taken hheld]
  · change execFrameGapTimeout dt l bytes s = _
    rw [execFrameGapTimeout, event_taken hheld]

end

/-- Bytes that are a valid frame, or that did not come as those of an attempt, are no attempt that could be discarded (log 32). -/
theorem discardFrame_ignored {s : State} {l : Link} {gap : Bool} {bytes : List ArrivedByte}
    (h : readFrame (bytes.map (·.value)) ≠ none ∨ ¬InTime gap bytes) : s.discardFrame l gap bytes = s.rest := by
  rw [State.discardFrame, if_pos]
  rw [Bool.or_eq_true, Option.isSome_iff_ne_none, Bool.not_eq_true', ← Bool.not_eq_true, arrivedInTime_iff]
  exact h

theorem discardFrame_searches {s : State} {l : Link} {gap : Bool} {bytes : List ArrivedByte}
    (h : readFrame (bytes.map (·.value)) = none) (htime : InTime gap bytes) :
    s.discardFrame l gap bytes =
      ((searchAgain gap (bytes.map (·.value))).1.foldl (State.takeHeard l bytes) s.finishQuiet).modPort l
        fun p => { p with receive := (searchAgain gap (bytes.map (·.value))).2 } := by
  rw [State.discardFrame, if_neg]
  rw [h, (arrivedInTime_iff gap bytes).mpr htime]
  exact Bool.false_ne_true

/-- A code outside the command code table is unknown (R185). -/
theorem requestBody_unknown {code : Byte} (h : isRequestCode code = false) (f : Frame) (contents : List Byte) (x : Contents)
    (s : State) : requestBody code f contents x s = s.refuse .unknownCommand := by
  unfold requestBody
  split
  case h_36 => rfl
  all_goals next hcode => simp [isRequestCode, hcode] at h

theorem place_lastFrame (a : Answer) (f : Frame) (code : Byte) :
    ((a.place f code).port f.link).lastFrame = (a.state.port f.link).lastFrame := by
  have hreplied : ((a.state.replied f code a.result a.data).port f.link).lastFrame = (a.state.port f.link).lastFrame := by
    rw [State.replied, modPort_port, if_pos rfl]
  rw [place_eq]
  split_ifs
  · obtain ⟨-, -, hlast, -⟩ := (finish_port (a.state.replied f code a.result a.data) f.link).keeps
    rw [hlast, hreplied]
  · obtain ⟨-, -, hlast, -⟩ := (finishQuiet_port (a.state.replied f code a.result a.data) f.link).keeps
    rw [hlast, hreplied]

/-- A frame that meets an empty reply slot is taken (R184). -/
theorem meetSlots_taken {s : State} {f : Frame} (h : (s.port f.link).reply = none) (code : Byte) (body : State → Answer) :
    s.meetSlots f code body = (body s).place f code := by
  simp only [State.meetSlots, h]

/-- A valid frame that is found while the reply slot is empty is heard at the moment of its last check byte, and answered. -/
theorem takeHeard_answers {s : State} {l : Link} (hr : (s.port l).reply = none) (bytes : List ArrivedByte) (h : Heard) :
    ∃ r d, ((s.takeHeard l bytes h).port l).lastFrame = some (s.now - h.age bytes) ∧
      ((s.takeHeard l bytes h).port l).reply = some ⟨replyKind h.kind, h.tag, r, d⟩ ∧
      (isRequestCode h.kind = false → r = .unknownCommand) := by
  have hheard : ((s.beginEvent 0).hearAt l (s.now - h.age bytes)).port l = (s.port l).received (s.now - h.age bytes) := by
    rw [State.hearAt, modPort_port, if_pos rfl]
    rfl
  unfold State.takeHeard
  dsimp only
  generalize lengthAgrees h.kind h.contents _ = agrees
  generalize (s.beginEvent 0).hearAt l (s.now - h.age bytes) = u at hheard ⊢
  generalize Config.contentsOf h.kind h.contents = x
  have hslot : (u.port l).reply = none := by
    rw [hheard]
    exact hr
  rw [meetSlots_taken (f := ⟨l, h.tag, agrees⟩) hslot]
  refine ⟨_, _, ?_, place_reply _ ⟨l, h.tag, agrees⟩ h.kind, fun hunknown => ?_⟩
  · have hlinks := requestBody_intake h.kind ⟨l, h.tag, agrees⟩ h.contents x u
    have hport : (requestBody h.kind ⟨l, h.tag, agrees⟩ h.contents x u).state.port l = u.port l :=
      congrArg (fun y : List Instr × PerLink LinkPort => y.2.get l) hlinks
    rw [place_lastFrame _ ⟨l, h.tag, agrees⟩, hport, hheard]
    rfl
  · rw [requestBody_unknown hunknown]
    rfl

/-! ### The statement -/

section
variable {dt : Nat} {l : Link} {gap : Bool} {bytes : List ArrivedByte} {s : State}

/-- An attempt among whose bytes no valid frame is found leaves only what still waits for more bytes (R183). -/
theorem discardFrame_finds_nothing (h : readFrame (bytes.map (·.value)) = none) (htime : InTime gap bytes)
    (hnone : (searchAgain gap (bytes.map (·.value))).1 = []) :
    let t := (s.beginEvent dt).discardFrame l gap bytes
    t = { s with now := s.now + dt, links := t.links, event := .blank } ∧
      ∀ k, t.port k =
        if k = l then { (s.port k).transmit with receive := (searchAgain gap (bytes.map (·.value))).2 }
        else (s.port k).transmit := by
  have hquiet (k : Link) : (s.beginEvent dt).finishQuiet.port k = (s.port k).transmit :=
    finishQuiet_port_silent (s := s.beginEvent dt) rfl rfl k
  dsimp only
  rw [discardFrame_searches h htime, hnone, List.foldl_nil]
  refine ⟨?_, fun k => ?_⟩
  · rw [finishQuiet_eq]
    rfl
  · rw [modPort_port, hquiet]

/-- A valid frame behind junk is heard at the moment of its last check byte, and answered (R183). -/
theorem discardFrame_finds_frame {before after : List ArrivedByte} {last : ArrivedByte} {kind tag : Byte} {contents : List Byte}
    (h : readFrame (bytes.map (·.value)) = none) (htime : InTime gap bytes) (hbytes : bytes = before ++ last :: after)
    (hfound : searchAgain gap (bytes.map (·.value)) = ([⟨kind, tag, contents, after.length⟩], []))
    (hr : (s.port l).reply = none) :
    ∃ r d, (((s.beginEvent dt).discardFrame l gap bytes).port l).lastFrame = some (s.now + dt - last.age) ∧
      (((s.beginEvent dt).discardFrame l gap bytes).port l).receive = [] ∧
      (((s.beginEvent dt).discardFrame l gap bytes).port l).reply = some ⟨replyKind kind, tag, r, d⟩ ∧
      (isRequestCode kind = false → r = .unknownCommand) := by
  have hslot : ((s.beginEvent dt).finishQuiet.port l).reply = none :=
    (finishQuiet_port (s.beginEvent dt) l).keeps.1.trans hr
  obtain ⟨r, d, hheard, hreply, hunknown⟩ := takeHeard_answers hslot bytes ⟨kind, tag, contents, after.length⟩
  have hage : (⟨kind, tag, contents, after.length⟩ : Heard).age bytes = last.age := by
    rw [hbytes, age_of_left]
  rw [hage, finishQuiet_now] at hheard
  rw [discardFrame_searches h htime, hfound, modPort_port, if_pos rfl]
  exact ⟨r, d, hheard, rfl, hreply, hunknown⟩

/-- The bytes of a valid frame behind a discarded start byte and junk are found as that frame. -/
theorem searchAgain_of_frame_bytes {before after : List ArrivedByte} {last : ArrivedByte} {junk contents : List Byte}
    {kind tag : Byte} (hbytes : bytes = before ++ last :: after)
    (hframe : (before ++ [last]).map (·.value) = startByte :: (junk ++ frameBytes kind tag contents)) (hjunk : startByte ∉ junk)
    (hafter : startByte ∉ after.map (·.value)) (hlength : contents.length ≤ 248) :
    searchAgain gap (bytes.map (·.value)) = ([⟨kind, tag, contents, after.length⟩], []) := by
  have hvalues : bytes.map (·.value) = startByte :: (junk ++ frameBytes kind tag contents ++ after.map (·.value)) := by
    rw [hbytes, List.append_cons, List.map_append, hframe, List.cons_append]
  rw [hvalues, searchAgain_frame gap kind tag hjunk hafter hlength, List.length_map]

end

/-- Settles O43: the events of a port, the search among discarded bytes, and the operations of the transmitter, each by its lemma. -/
theorem linkPortEvents : Obligations.LinkPortEvents := by
  refine ⟨fun dt l code tag s hheld => ?frames, fun dt l gap bytes s hheld => ?discarded, fun code => replyKind_toNat,
    fun p => ?transmitter⟩
  case frames =>
    refine ⟨unknownCommand_answered dt l code tag hheld,
      fun hr hb => portEvent _ (busyLink_event dt l code tag hheld hr hb),
      fun hr hb => portEvent _ (slotsFull_event dt l code tag hheld hr hb), fun x hx hgoesOn => ?_⟩
    obtain ⟨t, ho, ht, hports⟩ := portEvent LinkPort.sent (frameSent_event dt l hheld hx hgoesOn)
    refine ⟨t, ho, ht, fun k => ?_⟩
    rw [hports]
    by_cases hk : k = l
    · subst hk
      rw [if_pos rfl, if_pos rfl, sent_eq hx]
    · rw [if_neg hk, if_neg hk]
  case discarded =>
    have hexec := discard_event dt l hheld gap bytes
    refine ⟨fun h => ?_, fun h htime => ⟨⟨_, hexec, discardFrame_searches h htime⟩, fun hnone => ?_, search_nothing gap _,
      fun before after last junk contents kind tag hbytes hframe hjunk hafter hlength hr => ?_⟩⟩
    · rw [hexec, discardFrame_ignored h]
      rfl
    · obtain ⟨ht, hports⟩ := discardFrame_finds_nothing (dt := dt) (l := l) (s := s) h htime hnone
      exact ⟨_, hexec, ht, hports⟩
    · have hfound := searchAgain_of_frame_bytes (gap := gap) hbytes hframe hjunk hafter hlength
      obtain ⟨r, d, hanswer⟩ := discardFrame_finds_frame (dt := dt) h htime hbytes hfound hr
      exact ⟨hfound, _, r, d, hexec, hanswer⟩
  case transmitter =>
    refine ⟨transmit_sending, fun h => ⟨transmit_reply h, transmit_busy h, transmit_idle h, fun n rest hr hb hq => ?_⟩, rfl,
      join_cons p, fun r => sendingBytes_reply, fun tag n => sendingBytes_notice,
      fun width n h => ⟨beBytes_length width n, beBytes_foldl h⟩, lockTimeBytes_eq,
      fun t before wasSet => ⟨(flagField "clock set" wasSet).bytes, ?_⟩,
      fun period next t => ⟨Config.numberWidth "period", ?_⟩⟩
    · rw [transmit_notice h hr hb hq]
      exact ⟨rfl, nextSequence_toNat p.sequence⟩
    · simp [noticeDataBytes, NoticeData.fields, bodyBytes, BodyField.bytes]
    · simp [noticeDataBytes, NoticeData.fields, bodyBytes, BodyField.bytes]

end Sys2Proof.Machine.ControlAndLinks

/-! ## The configuration block and the store (R203, R206) -/

namespace Sys2Proof.Machine.ConfigurationStore

/-! ### The block stands in the first 95 bytes -/

section
variable {bs : List Byte} (check : List Byte)

theorem blockByte_append {i : Nat} (h : i < bs.length) : blockByte (bs ++ check) i = blockByte bs i := by
  rw [blockByte, List.getD_append _ _ _ _ h, blockByte]

theorem blockHalf_append {i : Nat} (h : i + 1 < bs.length) : blockHalf (bs ++ check) i = blockHalf bs i := by
  rw [blockHalf, blockByte_append check (Nat.lt_of_succ_lt h), blockByte_append check h, blockHalf]

theorem blockSigned_append {i : Nat} (h : i + 1 < bs.length) : blockSigned (bs ++ check) i = blockSigned bs i := by
  rw [blockSigned, blockHalf_append check h, blockSigned]

theorem readChamber_append {i : Nat} (h : i + 11 < bs.length) : readChamber (bs ++ check) i = readChamber bs i := by
  simp (disch := omega) only [readChamber, blockHalf_append, blockSigned_append]

theorem readChannel_append {i : Nat} (h : i + 3 < bs.length) : readChannel (bs ++ check) i = readChannel bs i := by
  simp (disch := omega) only [readChannel, blockHalf_append, blockSigned_append]

theorem readPlace_append {i : Nat} (h : i + 7 < bs.length) : readPlace (bs ++ check) i = readPlace bs i := by
  simp (disch := omega) only [readPlace, readChannel_append]

/-- Every field of a block lies in its first 95 bytes, so that what follows them changes none. -/
theorem readBlock_append (h : bs.length = 95) : readBlock (bs ++ check) = readBlock bs := by
  simp (disch := omega) only [readBlock, blockByte_append, blockHalf_append, readChamber_append, readPlace_append]

end

/-! ### The checks of a block -/

theorem format_of_blockFault_none {checkAgrees : Bool} {b : ConfigBlock} (h : blockFault checkAgrees b = none) : b.format = 1 := by
  by_contra hformat
  rw [blockFault, if_pos hformat] at h
  cases h

/-- Contents with their own CRC-32 pass check 2 of R203. -/
theorem storedCheckAgrees_withCheck {block : List Byte} (h : block.length = 95) : storedCheckAgrees (withCheck block) = true := by
  have hcheck : (be32 (check32 block).toNat).take 4 = be32 (check32 block).toNat := rfl
  rw [storedCheckAgrees, withCheck, List.drop_left' h, List.take_left' h, hcheck, beq_self_eq_true]

theorem loadable_iff {block : List Byte} :
    loadable block = true ↔ block.length = 95 ∧ blockFault true (readBlock block) = none := by
  rw [loadable, Bool.and_eq_true, decide_eq_true_iff, decide_eq_true_iff]

/-- What LOAD CONFIGURATION writes passes the checks of a start. -/
theorem storedFault_withCheck {block : List Byte} (h : loadable block = true) : storedFault (withCheck block) = none := by
  obtain ⟨hlength, hfault⟩ := loadable_iff.mp h
  rw [storedFault, storedCheckAgrees_withCheck hlength, withCheck, readBlock_append _ hlength, hfault]

/-- A store that does not answer brings no block in format 1. -/
theorem storedFault_allOnes : storedFault (List.replicate 99 0xFF#8) ≠ none := fun h =>
  absurd (format_of_blockFault_none h) (by decide)

theorem allOnes_ne_withCheck {block : List Byte} (h : loadable block = true) : List.replicate 99 0xFF#8 ≠ withCheck block :=
  fun heq => storedFault_allOnes (heq ▸ storedFault_withCheck h)

/-! ### The write and its read-back -/

section
variable {s : State} {block : List Byte} {x : StoreAnswer}

theorem writeConfiguration_of_agrees (h : x.read (withCheck block) = withCheck block) :
    s.writeConfiguration block x =
      ⟨.ok, .none, { s with start := { s.start with store := x.held (withCheck block), reconfigurePending := true } }, false⟩ :=
  if_pos h

theorem writeConfiguration_of_differs (h : x.read (withCheck block) ≠ withCheck block) :
    s.writeConfiguration block x =
      ⟨.condition, .none, { s with start := { s.start with store := x.held (withCheck block) } }, false⟩ :=
  if_neg h

end

/-! ### The checks of the request -/

section
variable {f : Frame} {block : List Byte} {x : StoreAnswer} {s : State}

theorem loadConfigurationBody_notPermitted (hf : f.link ≠ .desk) : loadConfigurationBody f block x s = s.refuse .notPermitted := by
  rw [loadConfigurationBody, decide_eq_false hf]
  rfl

theorem loadConfigurationBody_wrongPhase (hf : f.link = .desk)
    (hphase : ¬(s.phase .A = .outOfService ∧ s.phase .B = .outOfService)) :
    loadConfigurationBody f block x s = s.refuse .wrongPhase := by
  rw [loadConfigurationBody, decide_eq_true hf, ← Bool.decide_and, decide_eq_false hphase]
  rfl

theorem loadConfigurationBody_badValue (hf : f.link = .desk) (hphase : s.phase .A = .outOfService ∧ s.phase .B = .outOfService)
    (hblock : loadable block = false) : loadConfigurationBody f block x s = s.refuse .badValue := by
  rw [loadConfigurationBody, decide_eq_true hf, ← Bool.decide_and, decide_eq_true hphase, hblock]
  rfl

theorem loadConfigurationBody_writes (hf : f.link = .desk) (hphase : s.phase .A = .outOfService ∧ s.phase .B = .outOfService)
    (hblock : loadable block = true) : loadConfigurationBody f block x s = s.writeConfiguration block x := by
  rw [loadConfigurationBody, decide_eq_true hf, ← Bool.decide_and, decide_eq_true hphase, hblock]
  rfl

end

/-- A request whose answer, OK or not, leaves only the start-up unit changed and lets no other block react. -/
theorem startUp_written {s : State} {dt : Nat} {f : Frame} {code : Byte} {r : Result} {d : ReplyData} {u : StartUp}
    {body : State → Answer} (hr : Ready s f) (hb : body (s.taken dt f) = ⟨r, d, { s.taken dt f with start := u }, false⟩) :
    ∃ t, s.request dt f code body = .next t ∧
      t = { s with now := s.now + dt, start := u, links := t.links, event := .blank } ∧ LinksReplied s t dt f code r d := by
  have hplace : (body (s.taken dt f)).place f code =
      (State.replied { s.taken dt f with start := u } f code r d).finishQuiet := by
    rw [hb]
    rfl
  refine ⟨_, request_taken hr dt code body, ?_, ?_⟩
  · rw [hplace, finishQuiet_eq]
    rfl
  · rw [hplace]
    exact quiet_linksReplied code r d rfl rfl rfl

/-- Settles O26: the three checks in their order, then the write, whose answer the read-back decides. -/
theorem loadConfigurationWritesStore : Obligations.LoadConfigurationWritesStore := by
  intro dt f block damage readBack s hr answer closed leaves held read
  refine ⟨fun hf => ?notDesk, fun hf hclosed => ?inService, fun hf hclosed hblock => ?badBlock,
    fun hf hclosed hblock => ⟨storedFault_withCheck hblock, allOnes_ne_withCheck hblock, fun hread => ?agrees, fun hread => ?differs⟩⟩
  case notDesk => exact refused_onlyAnswered hr (loadConfigurationBody_notPermitted hf)
  case inService => exact refused_onlyAnswered hr (loadConfigurationBody_wrongPhase hf hclosed)
  case badBlock => exact refused_onlyAnswered hr (loadConfigurationBody_badValue hf hclosed hblock)
  case agrees =>
    have hbody := loadConfigurationBody_writes (x := ⟨damage, readBack⟩) (s := s.taken dt f) hf hclosed hblock
    exact startUp_written hr (hbody.trans (writeConfiguration_of_agrees hread))
  case differs =>
    have hbody := loadConfigurationBody_writes (x := ⟨damage, readBack⟩) (s := s.taken dt f) hf hclosed hblock
    exact startUp_written hr (hbody.trans (writeConfiguration_of_differs hread))

end Sys2Proof.Machine.ConfigurationStore
